-- ==== Sys2Proof/Word.lean ====
section
/-! DEFINITION. The word types of the machine (`00_scope.md` R10). Bit-field and byte-order helpers stand in `Decode.lean`. -/

namespace Sys2Proof

/-- A byte, 8 bits (R10). -/
abbrev Byte := BitVec 8

/-- A word, 16 bits (R10): registers, offsets, segment values, ports. -/
abbrev Word := BitVec 16

end Sys2Proof
end

