-- ==== Sys2Proof/Syntax.lean ====
section
/-! DEFINITION. The instructions, one constructor for each row of `spec/opcode_table.json`, and their operands. Names of
registers and addressing forms are the spec's. -/

namespace Sys2Proof

/-- The eight byte registers (`30_encoding.md` R126, column `w = 0`), in the order of their codes. -/
inductive Reg8 where
  | al | cl | dl | bl | ah | ch | dh | bh
deriving DecidableEq, Repr

/-- The eight word registers (R126, column `w = 1`), in the order of their codes. -/
inductive Reg16 where
  | ax | cx | dx | bx | sp | bp | si | di
deriving DecidableEq, Repr

/-- The four segment registers (R127), in the order of their codes. -/
inductive SReg where
  | es | cs | ss | ds
deriving DecidableEq, Repr

/-- The register part of an effective address, one row of R130's table each (`rm` 000 to 111). -/
inductive EaBase where
  | bxSi | bxDi | bpSi | bpDi | si | di | bp | bx
deriving DecidableEq, Repr

/-- A memory operand (R130, R131): the form of the displacement is part of the syntax, so that an instruction has one encoding. -/
inductive Mem where
  /-- `mod = 00, rm = 110`: a 16-bit direct address. -/
  | direct (addr : Word)
  /-- `mod = 00`: no displacement. `[BP]` has no such form. -/
  | plain (base : EaBase)
  /-- `mod = 01`: an 8-bit displacement, sign-extended. -/
  | disp8 (base : EaBase) (d : Byte)
  /-- `mod = 10`: a 16-bit displacement. -/
  | disp16 (base : EaBase) (d : Word)
deriving DecidableEq, Repr

/-- A ModRM operand (R124): a register (`mod = 11`) or memory. -/
inductive RegMem (ρ : Type) where
  | reg (r : ρ)
  | mem (m : Mem)
deriving DecidableEq, Repr

/-- A byte ModRM operand, the spec's `Eb`. -/
abbrev Rm8 := RegMem Reg8

/-- A word ModRM operand, the spec's `Ew`. -/
abbrev Rm16 := RegMem Reg16

/-- The two repeat prefixes (`43_string.md` R361): `F3` and `F2`. -/
inductive Rep where
  | rep | repne
deriving DecidableEq, Repr

/-- An instruction, one constructor per row of `spec/opcode_table.json`: those with operands first, each part in the table's
order. Fields: `rm`, `r`, `sr`, `m` operands; `i` a byte and `v` a word
immediate; `a` a direct offset; `d` a displacement; `p` a port; `n` an interrupt type; `off`, `seg` a far pointer. -/
inductive Instr where
  /-- ADD r/m8, r8: `00`, R262. -/
  | addRm8R8 (rm : Rm8) (r : Reg8)
  /-- ADD r/m16, r16: `01`, R262. -/
  | addRm16R16 (rm : Rm16) (r : Reg16)
  /-- ADD r8, r/m8: `02`, R262. -/
  | addR8Rm8 (r : Reg8) (rm : Rm8)
  /-- ADD r16, r/m16: `03`, R262. -/
  | addR16Rm16 (r : Reg16) (rm : Rm16)
  /-- ADD AL, imm8: `04`, R262. -/
  | addAlImm8 (i : Byte)
  /-- ADD AX, imm16: `05`, R262. -/
  | addAxImm16 (v : Word)
  /-- OR r/m8, r8: `08`, R323. -/
  | orRm8R8 (rm : Rm8) (r : Reg8)
  /-- OR r/m16, r16: `09`, R323. -/
  | orRm16R16 (rm : Rm16) (r : Reg16)
  /-- OR r8, r/m8: `0A`, R323. -/
  | orR8Rm8 (r : Reg8) (rm : Rm8)
  /-- OR r16, r/m16: `0B`, R323. -/
  | orR16Rm16 (r : Reg16) (rm : Rm16)
  /-- OR AL, imm8: `0C`, R323. -/
  | orAlImm8 (i : Byte)
  /-- OR AX, imm16: `0D`, R323. -/
  | orAxImm16 (v : Word)
  /-- ADC r/m8, r8: `10`, R263. -/
  | adcRm8R8 (rm : Rm8) (r : Reg8)
  /-- ADC r/m16, r16: `11`, R263. -/
  | adcRm16R16 (rm : Rm16) (r : Reg16)
  /-- ADC r8, r/m8: `12`, R263. -/
  | adcR8Rm8 (r : Reg8) (rm : Rm8)
  /-- ADC r16, r/m16: `13`, R263. -/
  | adcR16Rm16 (r : Reg16) (rm : Rm16)
  /-- ADC AL, imm8: `14`, R263. -/
  | adcAlImm8 (i : Byte)
  /-- ADC AX, imm16: `15`, R263. -/
  | adcAxImm16 (v : Word)
  /-- SBB r/m8, r8: `18`, R268. -/
  | sbbRm8R8 (rm : Rm8) (r : Reg8)
  /-- SBB r/m16, r16: `19`, R268. -/
  | sbbRm16R16 (rm : Rm16) (r : Reg16)
  /-- SBB r8, r/m8: `1A`, R268. -/
  | sbbR8Rm8 (r : Reg8) (rm : Rm8)
  /-- SBB r16, r/m16: `1B`, R268. -/
  | sbbR16Rm16 (r : Reg16) (rm : Rm16)
  /-- SBB AL, imm8: `1C`, R268. -/
  | sbbAlImm8 (i : Byte)
  /-- SBB AX, imm16: `1D`, R268. -/
  | sbbAxImm16 (v : Word)
  /-- AND r/m8, r8: `20`, R322. -/
  | andRm8R8 (rm : Rm8) (r : Reg8)
  /-- AND r/m16, r16: `21`, R322. -/
  | andRm16R16 (rm : Rm16) (r : Reg16)
  /-- AND r8, r/m8: `22`, R322. -/
  | andR8Rm8 (r : Reg8) (rm : Rm8)
  /-- AND r16, r/m16: `23`, R322. -/
  | andR16Rm16 (r : Reg16) (rm : Rm16)
  /-- AND AL, imm8: `24`, R322. -/
  | andAlImm8 (i : Byte)
  /-- AND AX, imm16: `25`, R322. -/
  | andAxImm16 (v : Word)
  /-- SUB r/m8, r8: `28`, R267. -/
  | subRm8R8 (rm : Rm8) (r : Reg8)
  /-- SUB r/m16, r16: `29`, R267. -/
  | subRm16R16 (rm : Rm16) (r : Reg16)
  /-- SUB r8, r/m8: `2A`, R267. -/
  | subR8Rm8 (r : Reg8) (rm : Rm8)
  /-- SUB r16, r/m16: `2B`, R267. -/
  | subR16Rm16 (r : Reg16) (rm : Rm16)
  /-- SUB AL, imm8: `2C`, R267. -/
  | subAlImm8 (i : Byte)
  /-- SUB AX, imm16: `2D`, R267. -/
  | subAxImm16 (v : Word)
  /-- XOR r/m8, r8: `30`, R324. -/
  | xorRm8R8 (rm : Rm8) (r : Reg8)
  /-- XOR r/m16, r16: `31`, R324. -/
  | xorRm16R16 (rm : Rm16) (r : Reg16)
  /-- XOR r8, r/m8: `32`, R324. -/
  | xorR8Rm8 (r : Reg8) (rm : Rm8)
  /-- XOR r16, r/m16: `33`, R324. -/
  | xorR16Rm16 (r : Reg16) (rm : Rm16)
  /-- XOR AL, imm8: `34`, R324. -/
  | xorAlImm8 (i : Byte)
  /-- XOR AX, imm16: `35`, R324. -/
  | xorAxImm16 (v : Word)
  /-- CMP r/m8, r8: `38`, R271. -/
  | cmpRm8R8 (rm : Rm8) (r : Reg8)
  /-- CMP r/m16, r16: `39`, R271. -/
  | cmpRm16R16 (rm : Rm16) (r : Reg16)
  /-- CMP r8, r/m8: `3A`, R271. -/
  | cmpR8Rm8 (r : Reg8) (rm : Rm8)
  /-- CMP r16, r/m16: `3B`, R271. -/
  | cmpR16Rm16 (r : Reg16) (rm : Rm16)
  /-- CMP AL, imm8: `3C`, R271. -/
  | cmpAlImm8 (i : Byte)
  /-- CMP AX, imm16: `3D`, R271. -/
  | cmpAxImm16 (v : Word)
  /-- ADD r/m8, imm8: `80 /0`, R262. -/
  | addRm8Imm8 (rm : Rm8) (i : Byte)
  /-- ADD r/m16, imm16: `81 /0`, R262. -/
  | addRm16Imm16 (rm : Rm16) (v : Word)
  /-- ADD r/m16, imm8 (sign-extended): `83 /0`, R262. -/
  | addRm16Imm8 (rm : Rm16) (i : Byte)
  /-- OR r/m8, imm8: `80 /1`, R323. -/
  | orRm8Imm8 (rm : Rm8) (i : Byte)
  /-- OR r/m16, imm16: `81 /1`, R323. -/
  | orRm16Imm16 (rm : Rm16) (v : Word)
  /-- ADC r/m8, imm8: `80 /2`, R263. -/
  | adcRm8Imm8 (rm : Rm8) (i : Byte)
  /-- ADC r/m16, imm16: `81 /2`, R263. -/
  | adcRm16Imm16 (rm : Rm16) (v : Word)
  /-- ADC r/m16, imm8 (sign-extended): `83 /2`, R263. -/
  | adcRm16Imm8 (rm : Rm16) (i : Byte)
  /-- SBB r/m8, imm8: `80 /3`, R268. -/
  | sbbRm8Imm8 (rm : Rm8) (i : Byte)
  /-- SBB r/m16, imm16: `81 /3`, R268. -/
  | sbbRm16Imm16 (rm : Rm16) (v : Word)
  /-- SBB r/m16, imm8 (sign-extended): `83 /3`, R268. -/
  | sbbRm16Imm8 (rm : Rm16) (i : Byte)
  /-- AND r/m8, imm8: `80 /4`, R322. -/
  | andRm8Imm8 (rm : Rm8) (i : Byte)
  /-- AND r/m16, imm16: `81 /4`, R322. -/
  | andRm16Imm16 (rm : Rm16) (v : Word)
  /-- SUB r/m8, imm8: `80 /5`, R267. -/
  | subRm8Imm8 (rm : Rm8) (i : Byte)
  /-- SUB r/m16, imm16: `81 /5`, R267. -/
  | subRm16Imm16 (rm : Rm16) (v : Word)
  /-- SUB r/m16, imm8 (sign-extended): `83 /5`, R267. -/
  | subRm16Imm8 (rm : Rm16) (i : Byte)
  /-- XOR r/m8, imm8: `80 /6`, R324. -/
  | xorRm8Imm8 (rm : Rm8) (i : Byte)
  /-- XOR r/m16, imm16: `81 /6`, R324. -/
  | xorRm16Imm16 (rm : Rm16) (v : Word)
  /-- CMP r/m8, imm8: `80 /7`, R271. -/
  | cmpRm8Imm8 (rm : Rm8) (i : Byte)
  /-- CMP r/m16, imm16: `81 /7`, R271. -/
  | cmpRm16Imm16 (rm : Rm16) (v : Word)
  /-- CMP r/m16, imm8 (sign-extended): `83 /7`, R271. -/
  | cmpRm16Imm8 (rm : Rm16) (i : Byte)
  /-- INC r16: `40+r`, R264. -/
  | incR16 (r : Reg16)
  /-- DEC r16: `48+r`, R269. -/
  | decR16 (r : Reg16)
  /-- PUSH r16: `50+r`, R210. -/
  | pushR16 (r : Reg16)
  /-- POP r16: `58+r`, R215. -/
  | popR16 (r : Reg16)
  /-- BOUND r16, m16&16: `62`, R453. -/
  | bound (r : Reg16) (m : Mem)
  /-- PUSH imm16: `68`, R214. -/
  | pushImm16 (v : Word)
  /-- IMUL r16, r/m16, imm16: `69`, R276. -/
  | imulR16Rm16Imm16 (r : Reg16) (rm : Rm16) (v : Word)
  /-- PUSH imm8 (sign-extended): `6A`, R214. -/
  | pushImm8 (i : Byte)
  /-- IMUL r16, r/m16, imm8 (sign-extended): `6B`, R276. -/
  | imulR16Rm16Imm8 (r : Reg16) (rm : Rm16) (i : Byte)
  /-- JO rel8: `70`, R410. -/
  | jo (d : Byte)
  /-- JNO rel8: `71`, R411. -/
  | jno (d : Byte)
  /-- JB/JNAE/JC rel8: `72`, R412. -/
  | jb (d : Byte)
  /-- JAE/JNB/JNC rel8: `73`, R413. -/
  | jae (d : Byte)
  /-- JE/JZ rel8: `74`, R414. -/
  | je (d : Byte)
  /-- JNE/JNZ rel8: `75`, R415. -/
  | jne (d : Byte)
  /-- JBE/JNA rel8: `76`, R416. -/
  | jbe (d : Byte)
  /-- JA/JNBE rel8: `77`, R417. -/
  | ja (d : Byte)
  /-- JS rel8: `78`, R418. -/
  | js (d : Byte)
  /-- JNS rel8: `79`, R419. -/
  | jns (d : Byte)
  /-- JP/JPE rel8: `7A`, R420. -/
  | jp (d : Byte)
  /-- JNP/JPO rel8: `7B`, R421. -/
  | jnp (d : Byte)
  /-- JL/JNGE rel8: `7C`, R422. -/
  | jl (d : Byte)
  /-- JGE/JNL rel8: `7D`, R423. -/
  | jge (d : Byte)
  /-- JLE/JNG rel8: `7E`, R424. -/
  | jle (d : Byte)
  /-- JG/JNLE rel8: `7F`, R425. -/
  | jg (d : Byte)
  /-- TEST r/m8, r8: `84`, R325. -/
  | testRm8R8 (rm : Rm8) (r : Reg8)
  /-- TEST r/m16, r16: `85`, R325. -/
  | testRm16R16 (rm : Rm16) (r : Reg16)
  /-- XCHG r/m8, r8: `86`, R220. -/
  | xchgRm8R8 (rm : Rm8) (r : Reg8)
  /-- XCHG r/m16, r16: `87`, R220. -/
  | xchgRm16R16 (rm : Rm16) (r : Reg16)
  /-- MOV r/m8, r8: `88`, R201. -/
  | movRm8R8 (rm : Rm8) (r : Reg8)
  /-- MOV r/m16, r16: `89`, R201. -/
  | movRm16R16 (rm : Rm16) (r : Reg16)
  /-- MOV r8, r/m8: `8A`, R201. -/
  | movR8Rm8 (r : Reg8) (rm : Rm8)
  /-- MOV r16, r/m16: `8B`, R201. -/
  | movR16Rm16 (r : Reg16) (rm : Rm16)
  /-- MOV r/m16, sreg: `8C`, R203. -/
  | movRm16Sreg (rm : Rm16) (sr : SReg)
  /-- LEA r16, m: `8D`, R230. -/
  | lea (r : Reg16) (m : Mem)
  /-- MOV sreg, r/m16: `8E`, R203. -/
  | movSregRm16 (sr : SReg) (rm : Rm16)
  /-- POP r/m16: `8F /0`, R216. -/
  | popRm16 (rm : Rm16)
  /-- XCHG AX, r16: `90+r`, R221. -/
  | xchgAxR16 (r : Reg16)
  /-- CALL ptr16:16 (far direct): `9A`, R437. -/
  | callFar (off : Word) (seg : Word)
  /-- MOV AL, moffs8: `A0`, R205. -/
  | movAlMoffs8 (a : Word)
  /-- MOV AX, moffs16: `A1`, R205. -/
  | movAxMoffs16 (a : Word)
  /-- MOV moffs8, AL: `A2`, R205. -/
  | movMoffs8Al (a : Word)
  /-- MOV moffs16, AX: `A3`, R205. -/
  | movMoffs16Ax (a : Word)
  /-- TEST AL, imm8: `A8`, R325. -/
  | testAlImm8 (i : Byte)
  /-- TEST AX, imm16: `A9`, R325. -/
  | testAxImm16 (v : Word)
  /-- MOV r8, imm8: `B0+r`, R202. -/
  | movR8Imm8 (r : Reg8) (i : Byte)
  /-- MOV r16, imm16: `B8+r`, R202. -/
  | movR16Imm16 (r : Reg16) (v : Word)
  /-- ROL r/m8, imm8: `C0 /0`, R334. -/
  | rolRm8Imm8 (rm : Rm8) (i : Byte)
  /-- ROL r/m16, imm8: `C1 /0`, R334. -/
  | rolRm16Imm8 (rm : Rm16) (i : Byte)
  /-- ROL r/m8, 1: `D0 /0`, R334. -/
  | rolRm8One (rm : Rm8)
  /-- ROL r/m16, 1: `D1 /0`, R334. -/
  | rolRm16One (rm : Rm16)
  /-- ROL r/m8, CL: `D2 /0`, R334. -/
  | rolRm8Cl (rm : Rm8)
  /-- ROL r/m16, CL: `D3 /0`, R334. -/
  | rolRm16Cl (rm : Rm16)
  /-- ROR r/m8, imm8: `C0 /1`, R335. -/
  | rorRm8Imm8 (rm : Rm8) (i : Byte)
  /-- ROR r/m16, imm8: `C1 /1`, R335. -/
  | rorRm16Imm8 (rm : Rm16) (i : Byte)
  /-- ROR r/m8, 1: `D0 /1`, R335. -/
  | rorRm8One (rm : Rm8)
  /-- ROR r/m16, 1: `D1 /1`, R335. -/
  | rorRm16One (rm : Rm16)
  /-- ROR r/m8, CL: `D2 /1`, R335. -/
  | rorRm8Cl (rm : Rm8)
  /-- ROR r/m16, CL: `D3 /1`, R335. -/
  | rorRm16Cl (rm : Rm16)
  /-- RCL r/m8, imm8: `C0 /2`, R336. -/
  | rclRm8Imm8 (rm : Rm8) (i : Byte)
  /-- RCL r/m16, imm8: `C1 /2`, R336. -/
  | rclRm16Imm8 (rm : Rm16) (i : Byte)
  /-- RCL r/m8, 1: `D0 /2`, R336. -/
  | rclRm8One (rm : Rm8)
  /-- RCL r/m16, 1: `D1 /2`, R336. -/
  | rclRm16One (rm : Rm16)
  /-- RCL r/m8, CL: `D2 /2`, R336. -/
  | rclRm8Cl (rm : Rm8)
  /-- RCL r/m16, CL: `D3 /2`, R336. -/
  | rclRm16Cl (rm : Rm16)
  /-- RCR r/m8, imm8: `C0 /3`, R337. -/
  | rcrRm8Imm8 (rm : Rm8) (i : Byte)
  /-- RCR r/m16, imm8: `C1 /3`, R337. -/
  | rcrRm16Imm8 (rm : Rm16) (i : Byte)
  /-- RCR r/m8, 1: `D0 /3`, R337. -/
  | rcrRm8One (rm : Rm8)
  /-- RCR r/m16, 1: `D1 /3`, R337. -/
  | rcrRm16One (rm : Rm16)
  /-- RCR r/m8, CL: `D2 /3`, R337. -/
  | rcrRm8Cl (rm : Rm8)
  /-- RCR r/m16, CL: `D3 /3`, R337. -/
  | rcrRm16Cl (rm : Rm16)
  /-- SHL/SAL r/m8, imm8: `C0 /4`, R331. -/
  | shlRm8Imm8 (rm : Rm8) (i : Byte)
  /-- SHL/SAL r/m16, imm8: `C1 /4`, R331. -/
  | shlRm16Imm8 (rm : Rm16) (i : Byte)
  /-- SHL/SAL r/m8, 1: `D0 /4`, R331. -/
  | shlRm8One (rm : Rm8)
  /-- SHL/SAL r/m16, 1: `D1 /4`, R331. -/
  | shlRm16One (rm : Rm16)
  /-- SHL/SAL r/m8, CL: `D2 /4`, R331. -/
  | shlRm8Cl (rm : Rm8)
  /-- SHL/SAL r/m16, CL: `D3 /4`, R331. -/
  | shlRm16Cl (rm : Rm16)
  /-- SHR r/m8, imm8: `C0 /5`, R332. -/
  | shrRm8Imm8 (rm : Rm8) (i : Byte)
  /-- SHR r/m16, imm8: `C1 /5`, R332. -/
  | shrRm16Imm8 (rm : Rm16) (i : Byte)
  /-- SHR r/m8, 1: `D0 /5`, R332. -/
  | shrRm8One (rm : Rm8)
  /-- SHR r/m16, 1: `D1 /5`, R332. -/
  | shrRm16One (rm : Rm16)
  /-- SHR r/m8, CL: `D2 /5`, R332. -/
  | shrRm8Cl (rm : Rm8)
  /-- SHR r/m16, CL: `D3 /5`, R332. -/
  | shrRm16Cl (rm : Rm16)
  /-- SAR r/m8, imm8: `C0 /7`, R333. -/
  | sarRm8Imm8 (rm : Rm8) (i : Byte)
  /-- SAR r/m16, imm8: `C1 /7`, R333. -/
  | sarRm16Imm8 (rm : Rm16) (i : Byte)
  /-- SAR r/m8, 1: `D0 /7`, R333. -/
  | sarRm8One (rm : Rm8)
  /-- SAR r/m16, 1: `D1 /7`, R333. -/
  | sarRm16One (rm : Rm16)
  /-- SAR r/m8, CL: `D2 /7`, R333. -/
  | sarRm8Cl (rm : Rm8)
  /-- SAR r/m16, CL: `D3 /7`, R333. -/
  | sarRm16Cl (rm : Rm16)
  /-- RET imm16 (near): `C2`, R441. -/
  | retNearImm16 (v : Word)
  /-- LES r16, m16:16: `C4`, R232. -/
  | les (r : Reg16) (m : Mem)
  /-- LDS r16, m16:16: `C5`, R231. -/
  | lds (r : Reg16) (m : Mem)
  /-- MOV r/m8, imm8: `C6 /0`, R204. -/
  | movRm8Imm8 (rm : Rm8) (i : Byte)
  /-- MOV r/m16, imm16: `C7 /0`, R204. -/
  | movRm16Imm16 (rm : Rm16) (v : Word)
  /-- ENTER imm16, imm8: `C8`, R235. -/
  | enter (v : Word) (l : Byte)
  /-- RET imm16 (far): `CA`, R443. -/
  | retFarImm16 (v : Word)
  /-- INT imm8: `CD`, R450. -/
  | intImm8 (n : Byte)
  /-- ESC opcode, r/m: `D8-DF`, R485. -/
  | esc (x : BitVec 3) (y : BitVec 3) (rm : Rm16)
  /-- LOOPNE/LOOPNZ rel8: `E0`, R447. -/
  | loopne (d : Byte)
  /-- LOOPE/LOOPZ rel8: `E1`, R446. -/
  | loope (d : Byte)
  /-- LOOP rel8: `E2`, R445. -/
  | loop (d : Byte)
  /-- JCXZ rel8: `E3`, R448. -/
  | jcxz (d : Byte)
  /-- IN AL, imm8: `E4`, R225. -/
  | inAlImm8 (p : Byte)
  /-- IN AX, imm8: `E5`, R225. -/
  | inAxImm8 (p : Byte)
  /-- OUT imm8, AL: `E6`, R226. -/
  | outImm8Al (p : Byte)
  /-- OUT imm8, AX: `E7`, R226. -/
  | outImm8Ax (p : Byte)
  /-- CALL rel16 (near direct): `E8`, R435. -/
  | callNear (d : Word)
  /-- JMP rel16 (near direct): `E9`, R431. -/
  | jmpNear (d : Word)
  /-- JMP ptr16:16 (far direct): `EA`, R433. -/
  | jmpFar (off : Word) (seg : Word)
  /-- JMP rel8 (short): `EB`, R430. -/
  | jmpShort (d : Byte)
  /-- TEST r/m8, imm8: `F6 /0`, R325. -/
  | testRm8Imm8 (rm : Rm8) (i : Byte)
  /-- TEST r/m16, imm16: `F7 /0`, R325. -/
  | testRm16Imm16 (rm : Rm16) (v : Word)
  /-- NOT r/m8: `F6 /2`, R321. -/
  | notRm8 (rm : Rm8)
  /-- NOT r/m16: `F7 /2`, R321. -/
  | notRm16 (rm : Rm16)
  /-- NEG r/m8: `F6 /3`, R270. -/
  | negRm8 (rm : Rm8)
  /-- NEG r/m16: `F7 /3`, R270. -/
  | negRm16 (rm : Rm16)
  /-- MUL r/m8: `F6 /4`, R274. -/
  | mulRm8 (rm : Rm8)
  /-- MUL r/m16: `F7 /4`, R274. -/
  | mulRm16 (rm : Rm16)
  /-- IMUL r/m8: `F6 /5`, R275. -/
  | imulRm8 (rm : Rm8)
  /-- IMUL r/m16: `F7 /5`, R275. -/
  | imulRm16 (rm : Rm16)
  /-- DIV r/m8: `F6 /6`, R278. -/
  | divRm8 (rm : Rm8)
  /-- DIV r/m16: `F7 /6`, R278. -/
  | divRm16 (rm : Rm16)
  /-- IDIV r/m8: `F6 /7`, R279. -/
  | idivRm8 (rm : Rm8)
  /-- IDIV r/m16: `F7 /7`, R279. -/
  | idivRm16 (rm : Rm16)
  /-- INC r/m8: `FE /0`, R264. -/
  | incRm8 (rm : Rm8)
  /-- DEC r/m8: `FE /1`, R269. -/
  | decRm8 (rm : Rm8)
  /-- INC r/m16: `FF /0`, R264. -/
  | incRm16 (rm : Rm16)
  /-- DEC r/m16: `FF /1`, R269. -/
  | decRm16 (rm : Rm16)
  /-- CALL r/m16 (near indirect): `FF /2`, R436. -/
  | callRm16 (rm : Rm16)
  /-- CALL m16:16 (far indirect): `FF /3`, R438. -/
  | callMem32 (m : Mem)
  /-- JMP r/m16 (near indirect): `FF /4`, R432. -/
  | jmpRm16 (rm : Rm16)
  /-- JMP m16:16 (far indirect): `FF /5`, R434. -/
  | jmpMem32 (m : Mem)
  /-- PUSH r/m16: `FF /6`, R213. -/
  | pushRm16 (rm : Rm16)
  /-- PUSH ES: `06`, R212. -/
  | pushEs
  /-- PUSH CS: `0E`, R212. -/
  | pushCs
  /-- PUSH SS: `16`, R212. -/
  | pushSs
  /-- PUSH DS: `1E`, R212. -/
  | pushDs
  /-- POP ES: `07`, R211. -/
  | popEs
  /-- POP SS: `17`, R211. -/
  | popSs
  /-- POP DS: `1F`, R211. -/
  | popDs
  /-- ES: (segment override prefix): `26`, R489. -/
  | segEs
  /-- CS: (segment override prefix): `2E`, R489. -/
  | segCs
  /-- SS: (segment override prefix): `36`, R489. -/
  | segSs
  /-- DS: (segment override prefix): `3E`, R489. -/
  | segDs
  /-- DAA: `27`, R266. -/
  | daa
  /-- DAS: `2F`, R273. -/
  | das
  /-- AAA: `37`, R265. -/
  | aaa
  /-- AAS: `3F`, R272. -/
  | aas
  /-- PUSHA: `60`, R217. -/
  | pusha
  /-- POPA: `61`, R218. -/
  | popa
  /-- INSB: `6C`, R375. -/
  | insb
  /-- INSW: `6D`, R375. -/
  | insw
  /-- OUTSB: `6E`, R376. -/
  | outsb
  /-- OUTSW: `6F`, R376. -/
  | outsw
  /-- NOP: `90`, R488. -/
  | nop
  /-- CBW: `98`, R281. -/
  | cbw
  /-- CWD: `99`, R282. -/
  | cwd
  /-- WAIT: `9B`, R481. -/
  | wait
  /-- PUSHF: `9C`, R252. -/
  | pushf
  /-- POPF: `9D`, R253. -/
  | popf
  /-- SAHF: `9E`, R251. -/
  | sahf
  /-- LAHF: `9F`, R250. -/
  | lahf
  /-- MOVSB: `A4`, R370. -/
  | movsb
  /-- MOVSW: `A5`, R370. -/
  | movsw
  /-- CMPSB: `A6`, R371. -/
  | cmpsb
  /-- CMPSW: `A7`, R371. -/
  | cmpsw
  /-- STOSB: `AA`, R374. -/
  | stosb
  /-- STOSW: `AB`, R374. -/
  | stosw
  /-- LODSB: `AC`, R373. -/
  | lodsb
  /-- LODSW: `AD`, R373. -/
  | lodsw
  /-- SCASB: `AE`, R372. -/
  | scasb
  /-- SCASW: `AF`, R372. -/
  | scasw
  /-- RET (near): `C3`, R440. -/
  | retNear
  /-- LEAVE: `C9`, R236. -/
  | leave
  /-- RET (far): `CB`, R442. -/
  | retFar
  /-- INT 3: `CC`, R451. -/
  | int3
  /-- INTO: `CE`, R452. -/
  | into
  /-- IRET: `CF`, R454. -/
  | iret
  /-- AAM: `D4 0A`, R277. -/
  | aam
  /-- AAD: `D5 0A`, R280. -/
  | aad
  /-- XLAT: `D7`, R222. -/
  | xlat
  /-- IN AL, DX: `EC`, R225. -/
  | inAlDx
  /-- IN AX, DX: `ED`, R225. -/
  | inAxDx
  /-- OUT DX, AL: `EE`, R226. -/
  | outDxAl
  /-- OUT DX, AX: `EF`, R226. -/
  | outDxAx
  /-- LOCK (prefix): `F0`, R487. -/
  | lock
  /-- REPNE/REPNZ (prefix): `F2`, R361. -/
  | repne
  /-- REP/REPE/REPZ (prefix): `F3`, R361. -/
  | rep
  /-- HLT: `F4`, R480. -/
  | hlt
  /-- CMC: `F5`, R473. -/
  | cmc
  /-- CLC: `F8`, R472. -/
  | clc
  /-- STC: `F9`, R471. -/
  | stc
  /-- CLI: `FA`, R477. -/
  | cli
  /-- STI: `FB`, R476. -/
  | sti
  /-- CLD: `FC`, R475. -/
  | cld
  /-- STD: `FD`, R474. -/
  | std
deriving DecidableEq, Repr

end Sys2Proof
end

