-- ==== Sys2Proof/WellFormed.lean ====
section
/-! DEFINITION. Which terms of the syntax have an encoding. -/

namespace Sys2Proof

/-- `[BP]` without a displacement is not encodable: its place in R130's table is the direct address. -/
def Mem.wf : Mem → Bool
  | .direct _ => true
  | .plain b => b != .bp
  | .disp8 _ _ => true
  | .disp16 _ _ => true

/-- A ModRM operand is well-formed when its memory form is. -/
def RegMem.wf {ρ : Type} : RegMem ρ → Bool
  | .reg _ => true
  | .mem m => m.wf

/-- The instruction has an encoding: its memory operand does, CS is no destination of MOV (R170), and `XCHG AX, AX` is NOP
(`40_data_transfer.md` R221). -/
def Instr.wf : Instr → Bool
  | .addRm8R8 rm _ => rm.wf
  | .addRm16R16 rm _ => rm.wf
  | .addR8Rm8 _ rm => rm.wf
  | .addR16Rm16 _ rm => rm.wf
  | .addAlImm8 _ => true
  | .addAxImm16 _ => true
  | .orRm8R8 rm _ => rm.wf
  | .orRm16R16 rm _ => rm.wf
  | .orR8Rm8 _ rm => rm.wf
  | .orR16Rm16 _ rm => rm.wf
  | .orAlImm8 _ => true
  | .orAxImm16 _ => true
  | .adcRm8R8 rm _ => rm.wf
  | .adcRm16R16 rm _ => rm.wf
  | .adcR8Rm8 _ rm => rm.wf
  | .adcR16Rm16 _ rm => rm.wf
  | .adcAlImm8 _ => true
  | .adcAxImm16 _ => true
  | .sbbRm8R8 rm _ => rm.wf
  | .sbbRm16R16 rm _ => rm.wf
  | .sbbR8Rm8 _ rm => rm.wf
  | .sbbR16Rm16 _ rm => rm.wf
  | .sbbAlImm8 _ => true
  | .sbbAxImm16 _ => true
  | .andRm8R8 rm _ => rm.wf
  | .andRm16R16 rm _ => rm.wf
  | .andR8Rm8 _ rm => rm.wf
  | .andR16Rm16 _ rm => rm.wf
  | .andAlImm8 _ => true
  | .andAxImm16 _ => true
  | .subRm8R8 rm _ => rm.wf
  | .subRm16R16 rm _ => rm.wf
  | .subR8Rm8 _ rm => rm.wf
  | .subR16Rm16 _ rm => rm.wf
  | .subAlImm8 _ => true
  | .subAxImm16 _ => true
  | .xorRm8R8 rm _ => rm.wf
  | .xorRm16R16 rm _ => rm.wf
  | .xorR8Rm8 _ rm => rm.wf
  | .xorR16Rm16 _ rm => rm.wf
  | .xorAlImm8 _ => true
  | .xorAxImm16 _ => true
  | .cmpRm8R8 rm _ => rm.wf
  | .cmpRm16R16 rm _ => rm.wf
  | .cmpR8Rm8 _ rm => rm.wf
  | .cmpR16Rm16 _ rm => rm.wf
  | .cmpAlImm8 _ => true
  | .cmpAxImm16 _ => true
  | .addRm8Imm8 rm _ => rm.wf
  | .addRm16Imm16 rm _ => rm.wf
  | .addRm16Imm8 rm _ => rm.wf
  | .orRm8Imm8 rm _ => rm.wf
  | .orRm16Imm16 rm _ => rm.wf
  | .adcRm8Imm8 rm _ => rm.wf
  | .adcRm16Imm16 rm _ => rm.wf
  | .adcRm16Imm8 rm _ => rm.wf
  | .sbbRm8Imm8 rm _ => rm.wf
  | .sbbRm16Imm16 rm _ => rm.wf
  | .sbbRm16Imm8 rm _ => rm.wf
  | .andRm8Imm8 rm _ => rm.wf
  | .andRm16Imm16 rm _ => rm.wf
  | .subRm8Imm8 rm _ => rm.wf
  | .subRm16Imm16 rm _ => rm.wf
  | .subRm16Imm8 rm _ => rm.wf
  | .xorRm8Imm8 rm _ => rm.wf
  | .xorRm16Imm16 rm _ => rm.wf
  | .cmpRm8Imm8 rm _ => rm.wf
  | .cmpRm16Imm16 rm _ => rm.wf
  | .cmpRm16Imm8 rm _ => rm.wf
  | .incR16 _ => true
  | .decR16 _ => true
  | .pushR16 _ => true
  | .popR16 _ => true
  | .bound _ m => m.wf
  | .pushImm16 _ => true
  | .imulR16Rm16Imm16 _ rm _ => rm.wf
  | .pushImm8 _ => true
  | .imulR16Rm16Imm8 _ rm _ => rm.wf
  | .jo _ => true
  | .jno _ => true
  | .jb _ => true
  | .jae _ => true
  | .je _ => true
  | .jne _ => true
  | .jbe _ => true
  | .ja _ => true
  | .js _ => true
  | .jns _ => true
  | .jp _ => true
  | .jnp _ => true
  | .jl _ => true
  | .jge _ => true
  | .jle _ => true
  | .jg _ => true
  | .testRm8R8 rm _ => rm.wf
  | .testRm16R16 rm _ => rm.wf
  | .xchgRm8R8 rm _ => rm.wf
  | .xchgRm16R16 rm _ => rm.wf
  | .movRm8R8 rm _ => rm.wf
  | .movRm16R16 rm _ => rm.wf
  | .movR8Rm8 _ rm => rm.wf
  | .movR16Rm16 _ rm => rm.wf
  | .movRm16Sreg rm _ => rm.wf
  | .lea _ m => m.wf
  | .movSregRm16 sr rm => (rm.wf && sr != .cs)
  | .popRm16 rm => rm.wf
  | .xchgAxR16 r => (r != .ax)
  | .callFar _ _ => true
  | .movAlMoffs8 _ => true
  | .movAxMoffs16 _ => true
  | .movMoffs8Al _ => true
  | .movMoffs16Ax _ => true
  | .testAlImm8 _ => true
  | .testAxImm16 _ => true
  | .movR8Imm8 _ _ => true
  | .movR16Imm16 _ _ => true
  | .rolRm8Imm8 rm _ => rm.wf
  | .rolRm16Imm8 rm _ => rm.wf
  | .rolRm8One rm => rm.wf
  | .rolRm16One rm => rm.wf
  | .rolRm8Cl rm => rm.wf
  | .rolRm16Cl rm => rm.wf
  | .rorRm8Imm8 rm _ => rm.wf
  | .rorRm16Imm8 rm _ => rm.wf
  | .rorRm8One rm => rm.wf
  | .rorRm16One rm => rm.wf
  | .rorRm8Cl rm => rm.wf
  | .rorRm16Cl rm => rm.wf
  | .rclRm8Imm8 rm _ => rm.wf
  | .rclRm16Imm8 rm _ => rm.wf
  | .rclRm8One rm => rm.wf
  | .rclRm16One rm => rm.wf
  | .rclRm8Cl rm => rm.wf
  | .rclRm16Cl rm => rm.wf
  | .rcrRm8Imm8 rm _ => rm.wf
  | .rcrRm16Imm8 rm _ => rm.wf
  | .rcrRm8One rm => rm.wf
  | .rcrRm16One rm => rm.wf
  | .rcrRm8Cl rm => rm.wf
  | .rcrRm16Cl rm => rm.wf
  | .shlRm8Imm8 rm _ => rm.wf
  | .shlRm16Imm8 rm _ => rm.wf
  | .shlRm8One rm => rm.wf
  | .shlRm16One rm => rm.wf
  | .shlRm8Cl rm => rm.wf
  | .shlRm16Cl rm => rm.wf
  | .shrRm8Imm8 rm _ => rm.wf
  | .shrRm16Imm8 rm _ => rm.wf
  | .shrRm8One rm => rm.wf
  | .shrRm16One rm => rm.wf
  | .shrRm8Cl rm => rm.wf
  | .shrRm16Cl rm => rm.wf
  | .sarRm8Imm8 rm _ => rm.wf
  | .sarRm16Imm8 rm _ => rm.wf
  | .sarRm8One rm => rm.wf
  | .sarRm16One rm => rm.wf
  | .sarRm8Cl rm => rm.wf
  | .sarRm16Cl rm => rm.wf
  | .retNearImm16 _ => true
  | .les _ m => m.wf
  | .lds _ m => m.wf
  | .movRm8Imm8 rm _ => rm.wf
  | .movRm16Imm16 rm _ => rm.wf
  | .enter _ _ => true
  | .retFarImm16 _ => true
  | .intImm8 _ => true
  | .esc _ _ rm => rm.wf
  | .loopne _ => true
  | .loope _ => true
  | .loop _ => true
  | .jcxz _ => true
  | .inAlImm8 _ => true
  | .inAxImm8 _ => true
  | .outImm8Al _ => true
  | .outImm8Ax _ => true
  | .callNear _ => true
  | .jmpNear _ => true
  | .jmpFar _ _ => true
  | .jmpShort _ => true
  | .testRm8Imm8 rm _ => rm.wf
  | .testRm16Imm16 rm _ => rm.wf
  | .notRm8 rm => rm.wf
  | .notRm16 rm => rm.wf
  | .negRm8 rm => rm.wf
  | .negRm16 rm => rm.wf
  | .mulRm8 rm => rm.wf
  | .mulRm16 rm => rm.wf
  | .imulRm8 rm => rm.wf
  | .imulRm16 rm => rm.wf
  | .divRm8 rm => rm.wf
  | .divRm16 rm => rm.wf
  | .idivRm8 rm => rm.wf
  | .idivRm16 rm => rm.wf
  | .incRm8 rm => rm.wf
  | .decRm8 rm => rm.wf
  | .incRm16 rm => rm.wf
  | .decRm16 rm => rm.wf
  | .callRm16 rm => rm.wf
  | .callMem32 m => m.wf
  | .jmpRm16 rm => rm.wf
  | .jmpMem32 m => m.wf
  | .pushRm16 rm => rm.wf
  | .pushEs => true
  | .pushCs => true
  | .pushSs => true
  | .pushDs => true
  | .popEs => true
  | .popSs => true
  | .popDs => true
  | .segEs => true
  | .segCs => true
  | .segSs => true
  | .segDs => true
  | .daa => true
  | .das => true
  | .aaa => true
  | .aas => true
  | .pusha => true
  | .popa => true
  | .insb => true
  | .insw => true
  | .outsb => true
  | .outsw => true
  | .nop => true
  | .cbw => true
  | .cwd => true
  | .wait => true
  | .pushf => true
  | .popf => true
  | .sahf => true
  | .lahf => true
  | .movsb => true
  | .movsw => true
  | .cmpsb => true
  | .cmpsw => true
  | .stosb => true
  | .stosw => true
  | .lodsb => true
  | .lodsw => true
  | .scasb => true
  | .scasw => true
  | .retNear => true
  | .leave => true
  | .retFar => true
  | .int3 => true
  | .into => true
  | .iret => true
  | .aam => true
  | .aad => true
  | .xlat => true
  | .inAlDx => true
  | .inAxDx => true
  | .outDxAl => true
  | .outDxAx => true
  | .lock => true
  | .repne => true
  | .rep => true
  | .hlt => true
  | .cmc => true
  | .clc => true
  | .stc => true
  | .cli => true
  | .sti => true
  | .cld => true
  | .std => true

end Sys2Proof
end

