-- ==== Sys2Proof/Decode.lean ====
section
/-! DEFINITION. The decoder and the encoder (`30_encoding.md`), and the byte-order and sign-extension helpers the machine uses
too. Every bit pattern is the spec's, from general knowledge (`92` D2, log 29). -/

namespace Sys2Proof

/-- The word whose low byte is `lo`, the byte at the lower address (`20_memory.md` R80). -/
def joinBytes (lo hi : Byte) : Word := hi ++ lo

/-- Bits 7:0 of a word. -/
def lowByte (v : Word) : Byte := v.setWidth 8

/-- Bits 15:8 of a word. -/
def highByte (v : Word) : Byte := (v >>> 8).setWidth 8

/-- `sext_16` of a byte (`00_scope.md` R10). -/
def signExt (b : Byte) : Word := b.signExtend 16

/-- `zext_16` of a byte (R10). -/
def zeroExt (b : Byte) : Word := b.setWidth 16

/-- `modrm[7:6]` (R124). -/
def modField (b : Byte) : Nat := b.toNat / 64

/-- `modrm[5:3]` (R124). -/
def regField (b : Byte) : Nat := b.toNat / 8 % 8

/-- `modrm[2:0]` (R124). -/
def rmField (b : Byte) : Nat := b.toNat % 8

/-- `reg8[code]` (R126). -/
def reg8Of : Nat → Reg8
  | 0 => .al | 1 => .cl | 2 => .dl | 3 => .bl | 4 => .ah | 5 => .ch | 6 => .dh | _ => .bh

/-- `reg16[code]` (R126). -/
def reg16Of : Nat → Reg16
  | 0 => .ax | 1 => .cx | 2 => .dx | 3 => .bx | 4 => .sp | 5 => .bp | 6 => .si | _ => .di

/-- The base of R130's table for `rm`. -/
def eaBaseOf : Nat → EaBase
  | 0 => .bxSi | 1 => .bxDi | 2 => .bpSi | 3 => .bpDi | 4 => .si | 5 => .di | 6 => .bp | _ => .bx

/-- The format of an encoding after its opcode byte (R122), with the constructor that its operands go to. -/
inductive Row where
  /-- An encoding of R170. -/
  | undefined
  /-- An encoding of R171. -/
  | undocumented
  /-- Formats `O`, `Or`, `Os` and `P`: no more bytes. -/
  | o (i : Instr)
  /-- A fixed second byte (AAM, AAD): any other is R171's. -/
  | second (b : Byte) (i : Instr)
  /-- A byte follows (`OI8`, `OJ8`, `OrI8`). -/
  | i8 (f : Byte → Instr)
  /-- A word follows (`OI16`, `OJ16`, `OA16`, `OrI16`). -/
  | i16 (f : Word → Instr)
  /-- A word and a byte follow (`OI16I8`). -/
  | i16i8 (f : Word → Byte → Instr)
  /-- Offset and segment follow (`OP32`). -/
  | p32 (f : Word → Word → Instr)
  /-- `OM` without a register operand, byte. -/
  | m8 (f : Rm8 → Instr)
  /-- `OM` without a register operand, word. -/
  | m16 (f : Rm16 → Instr)
  /-- `OM` that must be memory. -/
  | m (f : Mem → Instr)
  /-- `OM` with a byte register. -/
  | m8r (f : Rm8 → Reg8 → Instr)
  /-- `OM` with a word register. -/
  | m16r (f : Rm16 → Reg16 → Instr)
  /-- `OM` with a word register, the ModRM operand in memory. -/
  | mr (f : Reg16 → Mem → Instr)
  /-- `OM` with `modrm[5:3]` as a number (ESC). -/
  | m16d (f : BitVec 3 → Rm16 → Instr)
  /-- `OMI8`, byte operand. -/
  | m8i8 (f : Rm8 → Byte → Instr)
  /-- `OMI8`, word operand. -/
  | m16i8 (f : Rm16 → Byte → Instr)
  /-- `OMI16`. -/
  | m16i16 (f : Rm16 → Word → Instr)
  /-- `OMI8` with a word register. -/
  | m16ri8 (f : Reg16 → Rm16 → Byte → Instr)
  /-- `OMI16` with a word register. -/
  | m16ri16 (f : Reg16 → Rm16 → Word → Instr)

/-- Opcodes 00 to 0F of the opcode map (R150, R151); the first argument is the low digit. -/
def opcodeRow0 (lo : Nat) (_ : Nat) : Row :=
  match lo with
  | 0 => .m8r .addRm8R8
  | 1 => .m16r .addRm16R16
  | 2 => .m8r (fun rm r => .addR8Rm8 r rm)
  | 3 => .m16r (fun rm r => .addR16Rm16 r rm)
  | 4 => .i8 .addAlImm8
  | 5 => .i16 .addAxImm16
  | 6 => .o .pushEs
  | 7 => .o .popEs
  | 8 => .m8r .orRm8R8
  | 9 => .m16r .orRm16R16
  | 10 => .m8r (fun rm r => .orR8Rm8 r rm)
  | 11 => .m16r (fun rm r => .orR16Rm16 r rm)
  | 12 => .i8 .orAlImm8
  | 13 => .i16 .orAxImm16
  | 14 => .o .pushCs
  | _ => .undefined

/-- Opcodes 10 to 1F of the opcode map (R150, R151); the first argument is the low digit. -/
def opcodeRow1 (lo : Nat) (_ : Nat) : Row :=
  match lo with
  | 0 => .m8r .adcRm8R8
  | 1 => .m16r .adcRm16R16
  | 2 => .m8r (fun rm r => .adcR8Rm8 r rm)
  | 3 => .m16r (fun rm r => .adcR16Rm16 r rm)
  | 4 => .i8 .adcAlImm8
  | 5 => .i16 .adcAxImm16
  | 6 => .o .pushSs
  | 7 => .o .popSs
  | 8 => .m8r .sbbRm8R8
  | 9 => .m16r .sbbRm16R16
  | 10 => .m8r (fun rm r => .sbbR8Rm8 r rm)
  | 11 => .m16r (fun rm r => .sbbR16Rm16 r rm)
  | 12 => .i8 .sbbAlImm8
  | 13 => .i16 .sbbAxImm16
  | 14 => .o .pushDs
  | _ => .o .popDs

/-- Opcodes 20 to 2F of the opcode map (R150, R151); the first argument is the low digit. -/
def opcodeRow2 (lo : Nat) (_ : Nat) : Row :=
  match lo with
  | 0 => .m8r .andRm8R8
  | 1 => .m16r .andRm16R16
  | 2 => .m8r (fun rm r => .andR8Rm8 r rm)
  | 3 => .m16r (fun rm r => .andR16Rm16 r rm)
  | 4 => .i8 .andAlImm8
  | 5 => .i16 .andAxImm16
  | 6 => .o .segEs
  | 7 => .o .daa
  | 8 => .m8r .subRm8R8
  | 9 => .m16r .subRm16R16
  | 10 => .m8r (fun rm r => .subR8Rm8 r rm)
  | 11 => .m16r (fun rm r => .subR16Rm16 r rm)
  | 12 => .i8 .subAlImm8
  | 13 => .i16 .subAxImm16
  | 14 => .o .segCs
  | _ => .o .das

/-- Opcodes 30 to 3F of the opcode map (R150, R151); the first argument is the low digit. -/
def opcodeRow3 (lo : Nat) (_ : Nat) : Row :=
  match lo with
  | 0 => .m8r .xorRm8R8
  | 1 => .m16r .xorRm16R16
  | 2 => .m8r (fun rm r => .xorR8Rm8 r rm)
  | 3 => .m16r (fun rm r => .xorR16Rm16 r rm)
  | 4 => .i8 .xorAlImm8
  | 5 => .i16 .xorAxImm16
  | 6 => .o .segSs
  | 7 => .o .aaa
  | 8 => .m8r .cmpRm8R8
  | 9 => .m16r .cmpRm16R16
  | 10 => .m8r (fun rm r => .cmpR8Rm8 r rm)
  | 11 => .m16r (fun rm r => .cmpR16Rm16 r rm)
  | 12 => .i8 .cmpAlImm8
  | 13 => .i16 .cmpAxImm16
  | 14 => .o .segDs
  | _ => .o .aas

/-- Opcodes 40 to 4F of the opcode map (R150, R151); the first argument is the low digit. -/
def opcodeRow4 (lo : Nat) (_ : Nat) : Row :=
  match lo with
  | 0 => .o (.incR16 .ax)
  | 1 => .o (.incR16 .cx)
  | 2 => .o (.incR16 .dx)
  | 3 => .o (.incR16 .bx)
  | 4 => .o (.incR16 .sp)
  | 5 => .o (.incR16 .bp)
  | 6 => .o (.incR16 .si)
  | 7 => .o (.incR16 .di)
  | 8 => .o (.decR16 .ax)
  | 9 => .o (.decR16 .cx)
  | 10 => .o (.decR16 .dx)
  | 11 => .o (.decR16 .bx)
  | 12 => .o (.decR16 .sp)
  | 13 => .o (.decR16 .bp)
  | 14 => .o (.decR16 .si)
  | _ => .o (.decR16 .di)

/-- Opcodes 50 to 5F of the opcode map (R150, R151); the first argument is the low digit. -/
def opcodeRow5 (lo : Nat) (_ : Nat) : Row :=
  match lo with
  | 0 => .o (.pushR16 .ax)
  | 1 => .o (.pushR16 .cx)
  | 2 => .o (.pushR16 .dx)
  | 3 => .o (.pushR16 .bx)
  | 4 => .o (.pushR16 .sp)
  | 5 => .o (.pushR16 .bp)
  | 6 => .o (.pushR16 .si)
  | 7 => .o (.pushR16 .di)
  | 8 => .o (.popR16 .ax)
  | 9 => .o (.popR16 .cx)
  | 10 => .o (.popR16 .dx)
  | 11 => .o (.popR16 .bx)
  | 12 => .o (.popR16 .sp)
  | 13 => .o (.popR16 .bp)
  | 14 => .o (.popR16 .si)
  | _ => .o (.popR16 .di)

/-- Opcodes 60 to 6F of the opcode map (R150, R151); the first argument is the low digit. -/
def opcodeRow6 (lo : Nat) (_ : Nat) : Row :=
  match lo with
  | 0 => .o .pusha
  | 1 => .o .popa
  | 2 => .mr .bound
  | 3 => .undefined
  | 4 => .undefined
  | 5 => .undefined
  | 6 => .undefined
  | 7 => .undefined
  | 8 => .i16 .pushImm16
  | 9 => .m16ri16 .imulR16Rm16Imm16
  | 10 => .i8 .pushImm8
  | 11 => .m16ri8 .imulR16Rm16Imm8
  | 12 => .o .insb
  | 13 => .o .insw
  | 14 => .o .outsb
  | _ => .o .outsw

/-- Opcodes 70 to 7F of the opcode map (R150, R151); the first argument is the low digit. -/
def opcodeRow7 (lo : Nat) (_ : Nat) : Row :=
  match lo with
  | 0 => .i8 .jo
  | 1 => .i8 .jno
  | 2 => .i8 .jb
  | 3 => .i8 .jae
  | 4 => .i8 .je
  | 5 => .i8 .jne
  | 6 => .i8 .jbe
  | 7 => .i8 .ja
  | 8 => .i8 .js
  | 9 => .i8 .jns
  | 10 => .i8 .jp
  | 11 => .i8 .jnp
  | 12 => .i8 .jl
  | 13 => .i8 .jge
  | 14 => .i8 .jle
  | _ => .i8 .jg

/-- Opcodes 80 to 8F of the opcode map (R150, R151); the first argument is the low digit, `d` is `modrm[5:3]`. -/
def opcodeRow8 (lo : Nat) (d : Nat) : Row :=
  match lo with
  | 0 =>
    match d with
    | 0 => .m8i8 .addRm8Imm8
    | 1 => .m8i8 .orRm8Imm8
    | 2 => .m8i8 .adcRm8Imm8
    | 3 => .m8i8 .sbbRm8Imm8
    | 4 => .m8i8 .andRm8Imm8
    | 5 => .m8i8 .subRm8Imm8
    | 6 => .m8i8 .xorRm8Imm8
    | _ => .m8i8 .cmpRm8Imm8
  | 1 =>
    match d with
    | 0 => .m16i16 .addRm16Imm16
    | 1 => .m16i16 .orRm16Imm16
    | 2 => .m16i16 .adcRm16Imm16
    | 3 => .m16i16 .sbbRm16Imm16
    | 4 => .m16i16 .andRm16Imm16
    | 5 => .m16i16 .subRm16Imm16
    | 6 => .m16i16 .xorRm16Imm16
    | _ => .m16i16 .cmpRm16Imm16
  | 2 => .undocumented
  | 3 =>
    match d with
    | 0 => .m16i8 .addRm16Imm8
    | 1 => .undocumented
    | 2 => .m16i8 .adcRm16Imm8
    | 3 => .m16i8 .sbbRm16Imm8
    | 4 => .undocumented
    | 5 => .m16i8 .subRm16Imm8
    | 6 => .undocumented
    | _ => .m16i8 .cmpRm16Imm8
  | 4 => .m8r .testRm8R8
  | 5 => .m16r .testRm16R16
  | 6 => .m8r .xchgRm8R8
  | 7 => .m16r .xchgRm16R16
  | 8 => .m8r .movRm8R8
  | 9 => .m16r .movRm16R16
  | 10 => .m8r (fun rm r => .movR8Rm8 r rm)
  | 11 => .m16r (fun rm r => .movR16Rm16 r rm)
  | 12 =>
    match d with
    | 0 => .m16 (fun rm => .movRm16Sreg rm .es)
    | 1 => .m16 (fun rm => .movRm16Sreg rm .cs)
    | 2 => .m16 (fun rm => .movRm16Sreg rm .ss)
    | 3 => .m16 (fun rm => .movRm16Sreg rm .ds)
    | _ => .undefined
  | 13 => .mr .lea
  | 14 =>
    match d with
    | 0 => .m16 (.movSregRm16 .es)
    | 1 => .undefined
    | 2 => .m16 (.movSregRm16 .ss)
    | 3 => .m16 (.movSregRm16 .ds)
    | _ => .undefined
  | _ =>
    match d with
    | 0 => .m16 .popRm16
    | _ => .undefined

/-- Opcodes 90 to 9F of the opcode map (R150, R151); the first argument is the low digit. -/
def opcodeRow9 (lo : Nat) (_ : Nat) : Row :=
  match lo with
  | 0 => .o .nop
  | 1 => .o (.xchgAxR16 .cx)
  | 2 => .o (.xchgAxR16 .dx)
  | 3 => .o (.xchgAxR16 .bx)
  | 4 => .o (.xchgAxR16 .sp)
  | 5 => .o (.xchgAxR16 .bp)
  | 6 => .o (.xchgAxR16 .si)
  | 7 => .o (.xchgAxR16 .di)
  | 8 => .o .cbw
  | 9 => .o .cwd
  | 10 => .p32 .callFar
  | 11 => .o .wait
  | 12 => .o .pushf
  | 13 => .o .popf
  | 14 => .o .sahf
  | _ => .o .lahf

/-- Opcodes A0 to AF of the opcode map (R150, R151); the first argument is the low digit. -/
def opcodeRowA (lo : Nat) (_ : Nat) : Row :=
  match lo with
  | 0 => .i16 .movAlMoffs8
  | 1 => .i16 .movAxMoffs16
  | 2 => .i16 .movMoffs8Al
  | 3 => .i16 .movMoffs16Ax
  | 4 => .o .movsb
  | 5 => .o .movsw
  | 6 => .o .cmpsb
  | 7 => .o .cmpsw
  | 8 => .i8 .testAlImm8
  | 9 => .i16 .testAxImm16
  | 10 => .o .stosb
  | 11 => .o .stosw
  | 12 => .o .lodsb
  | 13 => .o .lodsw
  | 14 => .o .scasb
  | _ => .o .scasw

/-- Opcodes B0 to BF of the opcode map (R150, R151); the first argument is the low digit. -/
def opcodeRowB (lo : Nat) (_ : Nat) : Row :=
  match lo with
  | 0 => .i8 (.movR8Imm8 .al)
  | 1 => .i8 (.movR8Imm8 .cl)
  | 2 => .i8 (.movR8Imm8 .dl)
  | 3 => .i8 (.movR8Imm8 .bl)
  | 4 => .i8 (.movR8Imm8 .ah)
  | 5 => .i8 (.movR8Imm8 .ch)
  | 6 => .i8 (.movR8Imm8 .dh)
  | 7 => .i8 (.movR8Imm8 .bh)
  | 8 => .i16 (.movR16Imm16 .ax)
  | 9 => .i16 (.movR16Imm16 .cx)
  | 10 => .i16 (.movR16Imm16 .dx)
  | 11 => .i16 (.movR16Imm16 .bx)
  | 12 => .i16 (.movR16Imm16 .sp)
  | 13 => .i16 (.movR16Imm16 .bp)
  | 14 => .i16 (.movR16Imm16 .si)
  | _ => .i16 (.movR16Imm16 .di)

/-- Opcodes C0 to CF of the opcode map (R150, R151); the first argument is the low digit, `d` is `modrm[5:3]`. -/
def opcodeRowC (lo : Nat) (d : Nat) : Row :=
  match lo with
  | 0 =>
    match d with
    | 0 => .m8i8 .rolRm8Imm8
    | 1 => .m8i8 .rorRm8Imm8
    | 2 => .m8i8 .rclRm8Imm8
    | 3 => .m8i8 .rcrRm8Imm8
    | 4 => .m8i8 .shlRm8Imm8
    | 5 => .m8i8 .shrRm8Imm8
    | 6 => .undefined
    | _ => .m8i8 .sarRm8Imm8
  | 1 =>
    match d with
    | 0 => .m16i8 .rolRm16Imm8
    | 1 => .m16i8 .rorRm16Imm8
    | 2 => .m16i8 .rclRm16Imm8
    | 3 => .m16i8 .rcrRm16Imm8
    | 4 => .m16i8 .shlRm16Imm8
    | 5 => .m16i8 .shrRm16Imm8
    | 6 => .undefined
    | _ => .m16i8 .sarRm16Imm8
  | 2 => .i16 .retNearImm16
  | 3 => .o .retNear
  | 4 => .mr .les
  | 5 => .mr .lds
  | 6 =>
    match d with
    | 0 => .m8i8 .movRm8Imm8
    | _ => .undefined
  | 7 =>
    match d with
    | 0 => .m16i16 .movRm16Imm16
    | _ => .undefined
  | 8 => .i16i8 .enter
  | 9 => .o .leave
  | 10 => .i16 .retFarImm16
  | 11 => .o .retFar
  | 12 => .o .int3
  | 13 => .i8 .intImm8
  | 14 => .o .into
  | _ => .o .iret

/-- Opcodes D0 to DF of the opcode map (R150, R151); the first argument is the low digit, `d` is `modrm[5:3]`. -/
def opcodeRowD (lo : Nat) (d : Nat) : Row :=
  match lo with
  | 0 =>
    match d with
    | 0 => .m8 .rolRm8One
    | 1 => .m8 .rorRm8One
    | 2 => .m8 .rclRm8One
    | 3 => .m8 .rcrRm8One
    | 4 => .m8 .shlRm8One
    | 5 => .m8 .shrRm8One
    | 6 => .undefined
    | _ => .m8 .sarRm8One
  | 1 =>
    match d with
    | 0 => .m16 .rolRm16One
    | 1 => .m16 .rorRm16One
    | 2 => .m16 .rclRm16One
    | 3 => .m16 .rcrRm16One
    | 4 => .m16 .shlRm16One
    | 5 => .m16 .shrRm16One
    | 6 => .undefined
    | _ => .m16 .sarRm16One
  | 2 =>
    match d with
    | 0 => .m8 .rolRm8Cl
    | 1 => .m8 .rorRm8Cl
    | 2 => .m8 .rclRm8Cl
    | 3 => .m8 .rcrRm8Cl
    | 4 => .m8 .shlRm8Cl
    | 5 => .m8 .shrRm8Cl
    | 6 => .undefined
    | _ => .m8 .sarRm8Cl
  | 3 =>
    match d with
    | 0 => .m16 .rolRm16Cl
    | 1 => .m16 .rorRm16Cl
    | 2 => .m16 .rclRm16Cl
    | 3 => .m16 .rcrRm16Cl
    | 4 => .m16 .shlRm16Cl
    | 5 => .m16 .shrRm16Cl
    | 6 => .undefined
    | _ => .m16 .sarRm16Cl
  | 4 => .second 0x0A#8 .aam
  | 5 => .second 0x0A#8 .aad
  | 6 => .undefined
  | 7 => .o .xlat
  | 8 => .m16d (.esc 0)
  | 9 => .m16d (.esc 1)
  | 10 => .m16d (.esc 2)
  | 11 => .m16d (.esc 3)
  | 12 => .m16d (.esc 4)
  | 13 => .m16d (.esc 5)
  | 14 => .m16d (.esc 6)
  | _ => .m16d (.esc 7)

/-- Opcodes E0 to EF of the opcode map (R150, R151); the first argument is the low digit. -/
def opcodeRowE (lo : Nat) (_ : Nat) : Row :=
  match lo with
  | 0 => .i8 .loopne
  | 1 => .i8 .loope
  | 2 => .i8 .loop
  | 3 => .i8 .jcxz
  | 4 => .i8 .inAlImm8
  | 5 => .i8 .inAxImm8
  | 6 => .i8 .outImm8Al
  | 7 => .i8 .outImm8Ax
  | 8 => .i16 .callNear
  | 9 => .i16 .jmpNear
  | 10 => .p32 .jmpFar
  | 11 => .i8 .jmpShort
  | 12 => .o .inAlDx
  | 13 => .o .inAxDx
  | 14 => .o .outDxAl
  | _ => .o .outDxAx

/-- Opcodes F0 to FF of the opcode map (R150, R151); the first argument is the low digit, `d` is `modrm[5:3]`. -/
def opcodeRowF (lo : Nat) (d : Nat) : Row :=
  match lo with
  | 0 => .o .lock
  | 1 => .undefined
  | 2 => .o .repne
  | 3 => .o .rep
  | 4 => .o .hlt
  | 5 => .o .cmc
  | 6 =>
    match d with
    | 0 => .m8i8 .testRm8Imm8
    | 1 => .undefined
    | 2 => .m8 .notRm8
    | 3 => .m8 .negRm8
    | 4 => .m8 .mulRm8
    | 5 => .m8 .imulRm8
    | 6 => .m8 .divRm8
    | _ => .m8 .idivRm8
  | 7 =>
    match d with
    | 0 => .m16i16 .testRm16Imm16
    | 1 => .undefined
    | 2 => .m16 .notRm16
    | 3 => .m16 .negRm16
    | 4 => .m16 .mulRm16
    | 5 => .m16 .imulRm16
    | 6 => .m16 .divRm16
    | _ => .m16 .idivRm16
  | 8 => .o .clc
  | 9 => .o .stc
  | 10 => .o .cli
  | 11 => .o .sti
  | 12 => .o .cld
  | 13 => .o .std
  | 14 =>
    match d with
    | 0 => .m8 .incRm8
    | 1 => .m8 .decRm8
    | _ => .undefined
  | _ =>
    match d with
    | 0 => .m16 .incRm16
    | 1 => .m16 .decRm16
    | 2 => .m16 .callRm16
    | 3 => .m .callMem32
    | 4 => .m16 .jmpRm16
    | 5 => .m .jmpMem32
    | 6 => .m16 .pushRm16
    | _ => .undefined

/-- The opcode map: the row of an opcode byte, given `modrm[5:3]` of the byte after it. -/
def opcodeRow (op : Byte) (d : Nat) : Row :=
  match op.toNat / 16 with
  | 0 => opcodeRow0 (op.toNat % 16) d
  | 1 => opcodeRow1 (op.toNat % 16) d
  | 2 => opcodeRow2 (op.toNat % 16) d
  | 3 => opcodeRow3 (op.toNat % 16) d
  | 4 => opcodeRow4 (op.toNat % 16) d
  | 5 => opcodeRow5 (op.toNat % 16) d
  | 6 => opcodeRow6 (op.toNat % 16) d
  | 7 => opcodeRow7 (op.toNat % 16) d
  | 8 => opcodeRow8 (op.toNat % 16) d
  | 9 => opcodeRow9 (op.toNat % 16) d
  | 10 => opcodeRowA (op.toNat % 16) d
  | 11 => opcodeRowB (op.toNat % 16) d
  | 12 => opcodeRowC (op.toNat % 16) d
  | 13 => opcodeRowD (op.toNat % 16) d
  | 14 => opcodeRowE (op.toNat % 16) d
  | _ => opcodeRowF (op.toNat % 16) d

/-- What a decoder reads at the head of a list of bytes. -/
inductive Decoded where
  /-- An instruction, and the bytes after it. -/
  | instr (i : Instr) (rest : List Byte)
  /-- An undefined encoding of R170. -/
  | undefined
  /-- An alias or undocumented encoding of R171. -/
  | undocumented
  /-- The bytes end before the instruction does. -/
  | truncated
deriving DecidableEq, Repr

/-- A byte, then the rest. -/
def takeByte (bs : List Byte) (k : Byte → List Byte → Decoded) : Decoded :=
  match bs with
  | b :: rest => k b rest
  | [] => .truncated

/-- A word, low byte first (R80), then the rest. -/
def takeWord (bs : List Byte) (k : Word → List Byte → Decoded) : Decoded :=
  takeByte bs fun lo bs => takeByte bs fun hi bs => k (joinBytes lo hi) bs

/-- A memory operand from `mod`, `rm` and the bytes after the ModRM byte (R130, R131). -/
def takeMem (md rm : Nat) (bs : List Byte) (k : Mem → List Byte → Decoded) : Decoded :=
  match md with
  | 0 => if rm = 6 then takeWord bs fun a bs => k (.direct a) bs else k (.plain (eaBaseOf rm)) bs
  | 1 => takeByte bs fun d bs => k (.disp8 (eaBaseOf rm) d) bs
  | _ => takeWord bs fun d bs => k (.disp16 (eaBaseOf rm) d) bs

/-- A ModRM operand with its `modrm[5:3]`; `regOf` names the register of `mod = 11` (R132). -/
def takeRm {ρ : Type} (regOf : Nat → ρ) (bs : List Byte) (k : Nat → RegMem ρ → List Byte → Decoded) : Decoded :=
  takeByte bs fun b bs =>
    if modField b = 3 then k (regField b) (.reg (regOf (rmField b))) bs
    else takeMem (modField b) (rmField b) bs fun m bs => k (regField b) (.mem m) bs

/-- A ModRM operand that must be memory: `mod = 11` is an undefined encoding (R132, R170). -/
def takeMemOnly (bs : List Byte) (k : Nat → Mem → List Byte → Decoded) : Decoded :=
  takeByte bs fun b bs =>
    if modField b = 3 then .undefined else takeMem (modField b) (rmField b) bs (k (regField b))

/-- Reads the operands of a row. -/
def Row.read (row : Row) (bs : List Byte) : Decoded :=
  match row with
  | .undefined => .undefined
  | .undocumented => .undocumented
  | .o i => .instr i bs
  | .second b i => takeByte bs fun b' bs => if b' = b then .instr i bs else .undocumented
  | .i8 f => takeByte bs fun b bs => .instr (f b) bs
  | .i16 f => takeWord bs fun v bs => .instr (f v) bs
  | .i16i8 f => takeWord bs fun v bs => takeByte bs fun b bs => .instr (f v b) bs
  | .p32 f => takeWord bs fun off bs => takeWord bs fun seg bs => .instr (f off seg) bs
  | .m8 f => takeRm reg8Of bs fun _ rm bs => .instr (f rm) bs
  | .m16 f => takeRm reg16Of bs fun _ rm bs => .instr (f rm) bs
  | .m f => takeMemOnly bs fun _ m bs => .instr (f m) bs
  | .m8r f => takeRm reg8Of bs fun d rm bs => .instr (f rm (reg8Of d)) bs
  | .m16r f => takeRm reg16Of bs fun d rm bs => .instr (f rm (reg16Of d)) bs
  | .mr f => takeMemOnly bs fun d m bs => .instr (f (reg16Of d) m) bs
  | .m16d f => takeRm reg16Of bs fun d rm bs => .instr (f (BitVec.ofNat 3 d) rm) bs
  | .m8i8 f => takeRm reg8Of bs fun _ rm bs => takeByte bs fun b bs => .instr (f rm b) bs
  | .m16i8 f => takeRm reg16Of bs fun _ rm bs => takeByte bs fun b bs => .instr (f rm b) bs
  | .m16i16 f => takeRm reg16Of bs fun _ rm bs => takeWord bs fun v bs => .instr (f rm v) bs
  | .m16ri8 f => takeRm reg16Of bs fun d rm bs => takeByte bs fun b bs => .instr (f (reg16Of d) rm b) bs
  | .m16ri16 f => takeRm reg16Of bs fun d rm bs => takeWord bs fun v bs => .instr (f (reg16Of d) rm v) bs

/-- The decoding procedure of R141, one prefix byte or one instruction without its prefixes: the opcode byte, and where the
opcode has one the ModRM byte, tell the rest. -/
def decode : List Byte → Decoded
  | [] => .truncated
  | op :: bs =>
    match bs with
    | [] => (opcodeRow op 0).read []
    | b :: rest => (opcodeRow op (regField b)).read (b :: rest)

/-- The longest instruction without prefixes has six bytes (R121). -/
def maxLength : Nat := 6

/-- The bytes of an instruction whose bits are `w`, `nbits` of them given, numbered as `spec/opcode_table.json` numbers them
(R150): the opcode byte is the most significant, `byte0` in bits 15:8 and `byte1` in bits 7:0 of the table's four digits. The
bytes above are zero (log 38). -/
def tableBytes (nbits w : Nat) : List Byte :=
  (List.range maxLength).map fun k =>
    if 8 * k < nbits then BitVec.ofNat 8 (w / 2 ^ (nbits - 8 * (k + 1))) else 0

/-- The instruction the decoder reads from an instruction whose bits are `w`. -/
def decodeTableWord (nbits w : Nat) : Option Instr :=
  match decode (tableBytes nbits w) with
  | .instr i _ => some i
  | _ => none

/-! The encoder, written from the same tables. -/

/-- The code of a byte register (R126). -/
def codeReg8 : Reg8 → BitVec 3
  | .al => 0 | .cl => 1 | .dl => 2 | .bl => 3 | .ah => 4 | .ch => 5 | .dh => 6 | .bh => 7

/-- The code of a word register (R126). -/
def codeReg16 : Reg16 → BitVec 3
  | .ax => 0 | .cx => 1 | .dx => 2 | .bx => 3 | .sp => 4 | .bp => 5 | .si => 6 | .di => 7

/-- The code of a segment register (R127), with `modrm[5] = 0`. -/
def digitSReg : SReg → BitVec 3
  | .es => 0 | .cs => 1 | .ss => 2 | .ds => 3

/-- `rm` of a base (R130). -/
def codeBase : EaBase → BitVec 3
  | .bxSi => 0 | .bxDi => 1 | .bpSi => 2 | .bpDi => 3 | .si => 4 | .di => 5 | .bp => 6 | .bx => 7

/-- An opcode byte with a register in bits 2:0 (format `Or`). -/
def opReg (op : Byte) (r : BitVec 3) : Byte := op ||| r.setWidth 8

/-- A ModRM byte (R124). -/
def modrm (md : BitVec 2) (reg rm : BitVec 3) : Byte := md ++ reg ++ rm

/-- A word, low byte first (R80). -/
def encWord (v : Word) : List Byte := [lowByte v, highByte v]

/-- The ModRM byte and displacement of a memory operand (R130, R131). -/
def encMem (reg : BitVec 3) : Mem → List Byte
  | .direct a => modrm 0 reg 6 :: encWord a
  | .plain b => [modrm 0 reg (codeBase b)]
  | .disp8 b d => [modrm 1 reg (codeBase b), d]
  | .disp16 b d => modrm 2 reg (codeBase b) :: encWord d

/-- A byte ModRM operand. -/
def encRm8 (reg : BitVec 3) : Rm8 → List Byte
  | .reg r => [modrm 3 reg (codeReg8 r)]
  | .mem m => encMem reg m

/-- A word ModRM operand. -/
def encRm16 (reg : BitVec 3) : Rm16 → List Byte
  | .reg r => [modrm 3 reg (codeReg16 r)]
  | .mem m => encMem reg m

/-- The bytes of an instruction, in address order. -/
def encode : Instr → List Byte
  | .addRm8R8 rm r => 0x00#8 :: encRm8 (codeReg8 r) rm
  | .addRm16R16 rm r => 0x01#8 :: encRm16 (codeReg16 r) rm
  | .addR8Rm8 r rm => 0x02#8 :: encRm8 (codeReg8 r) rm
  | .addR16Rm16 r rm => 0x03#8 :: encRm16 (codeReg16 r) rm
  | .addAlImm8 i => [0x04#8, i]
  | .addAxImm16 v => 0x05#8 :: encWord v
  | .orRm8R8 rm r => 0x08#8 :: encRm8 (codeReg8 r) rm
  | .orRm16R16 rm r => 0x09#8 :: encRm16 (codeReg16 r) rm
  | .orR8Rm8 r rm => 0x0A#8 :: encRm8 (codeReg8 r) rm
  | .orR16Rm16 r rm => 0x0B#8 :: encRm16 (codeReg16 r) rm
  | .orAlImm8 i => [0x0C#8, i]
  | .orAxImm16 v => 0x0D#8 :: encWord v
  | .adcRm8R8 rm r => 0x10#8 :: encRm8 (codeReg8 r) rm
  | .adcRm16R16 rm r => 0x11#8 :: encRm16 (codeReg16 r) rm
  | .adcR8Rm8 r rm => 0x12#8 :: encRm8 (codeReg8 r) rm
  | .adcR16Rm16 r rm => 0x13#8 :: encRm16 (codeReg16 r) rm
  | .adcAlImm8 i => [0x14#8, i]
  | .adcAxImm16 v => 0x15#8 :: encWord v
  | .sbbRm8R8 rm r => 0x18#8 :: encRm8 (codeReg8 r) rm
  | .sbbRm16R16 rm r => 0x19#8 :: encRm16 (codeReg16 r) rm
  | .sbbR8Rm8 r rm => 0x1A#8 :: encRm8 (codeReg8 r) rm
  | .sbbR16Rm16 r rm => 0x1B#8 :: encRm16 (codeReg16 r) rm
  | .sbbAlImm8 i => [0x1C#8, i]
  | .sbbAxImm16 v => 0x1D#8 :: encWord v
  | .andRm8R8 rm r => 0x20#8 :: encRm8 (codeReg8 r) rm
  | .andRm16R16 rm r => 0x21#8 :: encRm16 (codeReg16 r) rm
  | .andR8Rm8 r rm => 0x22#8 :: encRm8 (codeReg8 r) rm
  | .andR16Rm16 r rm => 0x23#8 :: encRm16 (codeReg16 r) rm
  | .andAlImm8 i => [0x24#8, i]
  | .andAxImm16 v => 0x25#8 :: encWord v
  | .subRm8R8 rm r => 0x28#8 :: encRm8 (codeReg8 r) rm
  | .subRm16R16 rm r => 0x29#8 :: encRm16 (codeReg16 r) rm
  | .subR8Rm8 r rm => 0x2A#8 :: encRm8 (codeReg8 r) rm
  | .subR16Rm16 r rm => 0x2B#8 :: encRm16 (codeReg16 r) rm
  | .subAlImm8 i => [0x2C#8, i]
  | .subAxImm16 v => 0x2D#8 :: encWord v
  | .xorRm8R8 rm r => 0x30#8 :: encRm8 (codeReg8 r) rm
  | .xorRm16R16 rm r => 0x31#8 :: encRm16 (codeReg16 r) rm
  | .xorR8Rm8 r rm => 0x32#8 :: encRm8 (codeReg8 r) rm
  | .xorR16Rm16 r rm => 0x33#8 :: encRm16 (codeReg16 r) rm
  | .xorAlImm8 i => [0x34#8, i]
  | .xorAxImm16 v => 0x35#8 :: encWord v
  | .cmpRm8R8 rm r => 0x38#8 :: encRm8 (codeReg8 r) rm
  | .cmpRm16R16 rm r => 0x39#8 :: encRm16 (codeReg16 r) rm
  | .cmpR8Rm8 r rm => 0x3A#8 :: encRm8 (codeReg8 r) rm
  | .cmpR16Rm16 r rm => 0x3B#8 :: encRm16 (codeReg16 r) rm
  | .cmpAlImm8 i => [0x3C#8, i]
  | .cmpAxImm16 v => 0x3D#8 :: encWord v
  | .addRm8Imm8 rm i => 0x80#8 :: (encRm8 0 rm ++ [i])
  | .addRm16Imm16 rm v => 0x81#8 :: (encRm16 0 rm ++ encWord v)
  | .addRm16Imm8 rm i => 0x83#8 :: (encRm16 0 rm ++ [i])
  | .orRm8Imm8 rm i => 0x80#8 :: (encRm8 1 rm ++ [i])
  | .orRm16Imm16 rm v => 0x81#8 :: (encRm16 1 rm ++ encWord v)
  | .adcRm8Imm8 rm i => 0x80#8 :: (encRm8 2 rm ++ [i])
  | .adcRm16Imm16 rm v => 0x81#8 :: (encRm16 2 rm ++ encWord v)
  | .adcRm16Imm8 rm i => 0x83#8 :: (encRm16 2 rm ++ [i])
  | .sbbRm8Imm8 rm i => 0x80#8 :: (encRm8 3 rm ++ [i])
  | .sbbRm16Imm16 rm v => 0x81#8 :: (encRm16 3 rm ++ encWord v)
  | .sbbRm16Imm8 rm i => 0x83#8 :: (encRm16 3 rm ++ [i])
  | .andRm8Imm8 rm i => 0x80#8 :: (encRm8 4 rm ++ [i])
  | .andRm16Imm16 rm v => 0x81#8 :: (encRm16 4 rm ++ encWord v)
  | .subRm8Imm8 rm i => 0x80#8 :: (encRm8 5 rm ++ [i])
  | .subRm16Imm16 rm v => 0x81#8 :: (encRm16 5 rm ++ encWord v)
  | .subRm16Imm8 rm i => 0x83#8 :: (encRm16 5 rm ++ [i])
  | .xorRm8Imm8 rm i => 0x80#8 :: (encRm8 6 rm ++ [i])
  | .xorRm16Imm16 rm v => 0x81#8 :: (encRm16 6 rm ++ encWord v)
  | .cmpRm8Imm8 rm i => 0x80#8 :: (encRm8 7 rm ++ [i])
  | .cmpRm16Imm16 rm v => 0x81#8 :: (encRm16 7 rm ++ encWord v)
  | .cmpRm16Imm8 rm i => 0x83#8 :: (encRm16 7 rm ++ [i])
  | .incR16 r => [opReg 0x40#8 (codeReg16 r)]
  | .decR16 r => [opReg 0x48#8 (codeReg16 r)]
  | .pushR16 r => [opReg 0x50#8 (codeReg16 r)]
  | .popR16 r => [opReg 0x58#8 (codeReg16 r)]
  | .bound r m => 0x62#8 :: encMem (codeReg16 r) m
  | .pushImm16 v => 0x68#8 :: encWord v
  | .imulR16Rm16Imm16 r rm v => 0x69#8 :: (encRm16 (codeReg16 r) rm ++ encWord v)
  | .pushImm8 i => [0x6A#8, i]
  | .imulR16Rm16Imm8 r rm i => 0x6B#8 :: (encRm16 (codeReg16 r) rm ++ [i])
  | .jo d => [0x70#8, d]
  | .jno d => [0x71#8, d]
  | .jb d => [0x72#8, d]
  | .jae d => [0x73#8, d]
  | .je d => [0x74#8, d]
  | .jne d => [0x75#8, d]
  | .jbe d => [0x76#8, d]
  | .ja d => [0x77#8, d]
  | .js d => [0x78#8, d]
  | .jns d => [0x79#8, d]
  | .jp d => [0x7A#8, d]
  | .jnp d => [0x7B#8, d]
  | .jl d => [0x7C#8, d]
  | .jge d => [0x7D#8, d]
  | .jle d => [0x7E#8, d]
  | .jg d => [0x7F#8, d]
  | .testRm8R8 rm r => 0x84#8 :: encRm8 (codeReg8 r) rm
  | .testRm16R16 rm r => 0x85#8 :: encRm16 (codeReg16 r) rm
  | .xchgRm8R8 rm r => 0x86#8 :: encRm8 (codeReg8 r) rm
  | .xchgRm16R16 rm r => 0x87#8 :: encRm16 (codeReg16 r) rm
  | .movRm8R8 rm r => 0x88#8 :: encRm8 (codeReg8 r) rm
  | .movRm16R16 rm r => 0x89#8 :: encRm16 (codeReg16 r) rm
  | .movR8Rm8 r rm => 0x8A#8 :: encRm8 (codeReg8 r) rm
  | .movR16Rm16 r rm => 0x8B#8 :: encRm16 (codeReg16 r) rm
  | .movRm16Sreg rm sr => 0x8C#8 :: encRm16 (digitSReg sr) rm
  | .lea r m => 0x8D#8 :: encMem (codeReg16 r) m
  | .movSregRm16 sr rm => 0x8E#8 :: encRm16 (digitSReg sr) rm
  | .popRm16 rm => 0x8F#8 :: encRm16 0 rm
  | .xchgAxR16 r => [opReg 0x90#8 (codeReg16 r)]
  | .callFar off seg => 0x9A#8 :: (encWord off ++ encWord seg)
  | .movAlMoffs8 a => 0xA0#8 :: encWord a
  | .movAxMoffs16 a => 0xA1#8 :: encWord a
  | .movMoffs8Al a => 0xA2#8 :: encWord a
  | .movMoffs16Ax a => 0xA3#8 :: encWord a
  | .testAlImm8 i => [0xA8#8, i]
  | .testAxImm16 v => 0xA9#8 :: encWord v
  | .movR8Imm8 r i => [opReg 0xB0#8 (codeReg8 r), i]
  | .movR16Imm16 r v => opReg 0xB8#8 (codeReg16 r) :: encWord v
  | .rolRm8Imm8 rm i => 0xC0#8 :: (encRm8 0 rm ++ [i])
  | .rolRm16Imm8 rm i => 0xC1#8 :: (encRm16 0 rm ++ [i])
  | .rolRm8One rm => 0xD0#8 :: encRm8 0 rm
  | .rolRm16One rm => 0xD1#8 :: encRm16 0 rm
  | .rolRm8Cl rm => 0xD2#8 :: encRm8 0 rm
  | .rolRm16Cl rm => 0xD3#8 :: encRm16 0 rm
  | .rorRm8Imm8 rm i => 0xC0#8 :: (encRm8 1 rm ++ [i])
  | .rorRm16Imm8 rm i => 0xC1#8 :: (encRm16 1 rm ++ [i])
  | .rorRm8One rm => 0xD0#8 :: encRm8 1 rm
  | .rorRm16One rm => 0xD1#8 :: encRm16 1 rm
  | .rorRm8Cl rm => 0xD2#8 :: encRm8 1 rm
  | .rorRm16Cl rm => 0xD3#8 :: encRm16 1 rm
  | .rclRm8Imm8 rm i => 0xC0#8 :: (encRm8 2 rm ++ [i])
  | .rclRm16Imm8 rm i => 0xC1#8 :: (encRm16 2 rm ++ [i])
  | .rclRm8One rm => 0xD0#8 :: encRm8 2 rm
  | .rclRm16One rm => 0xD1#8 :: encRm16 2 rm
  | .rclRm8Cl rm => 0xD2#8 :: encRm8 2 rm
  | .rclRm16Cl rm => 0xD3#8 :: encRm16 2 rm
  | .rcrRm8Imm8 rm i => 0xC0#8 :: (encRm8 3 rm ++ [i])
  | .rcrRm16Imm8 rm i => 0xC1#8 :: (encRm16 3 rm ++ [i])
  | .rcrRm8One rm => 0xD0#8 :: encRm8 3 rm
  | .rcrRm16One rm => 0xD1#8 :: encRm16 3 rm
  | .rcrRm8Cl rm => 0xD2#8 :: encRm8 3 rm
  | .rcrRm16Cl rm => 0xD3#8 :: encRm16 3 rm
  | .shlRm8Imm8 rm i => 0xC0#8 :: (encRm8 4 rm ++ [i])
  | .shlRm16Imm8 rm i => 0xC1#8 :: (encRm16 4 rm ++ [i])
  | .shlRm8One rm => 0xD0#8 :: encRm8 4 rm
  | .shlRm16One rm => 0xD1#8 :: encRm16 4 rm
  | .shlRm8Cl rm => 0xD2#8 :: encRm8 4 rm
  | .shlRm16Cl rm => 0xD3#8 :: encRm16 4 rm
  | .shrRm8Imm8 rm i => 0xC0#8 :: (encRm8 5 rm ++ [i])
  | .shrRm16Imm8 rm i => 0xC1#8 :: (encRm16 5 rm ++ [i])
  | .shrRm8One rm => 0xD0#8 :: encRm8 5 rm
  | .shrRm16One rm => 0xD1#8 :: encRm16 5 rm
  | .shrRm8Cl rm => 0xD2#8 :: encRm8 5 rm
  | .shrRm16Cl rm => 0xD3#8 :: encRm16 5 rm
  | .sarRm8Imm8 rm i => 0xC0#8 :: (encRm8 7 rm ++ [i])
  | .sarRm16Imm8 rm i => 0xC1#8 :: (encRm16 7 rm ++ [i])
  | .sarRm8One rm => 0xD0#8 :: encRm8 7 rm
  | .sarRm16One rm => 0xD1#8 :: encRm16 7 rm
  | .sarRm8Cl rm => 0xD2#8 :: encRm8 7 rm
  | .sarRm16Cl rm => 0xD3#8 :: encRm16 7 rm
  | .retNearImm16 v => 0xC2#8 :: encWord v
  | .les r m => 0xC4#8 :: encMem (codeReg16 r) m
  | .lds r m => 0xC5#8 :: encMem (codeReg16 r) m
  | .movRm8Imm8 rm i => 0xC6#8 :: (encRm8 0 rm ++ [i])
  | .movRm16Imm16 rm v => 0xC7#8 :: (encRm16 0 rm ++ encWord v)
  | .enter v l => 0xC8#8 :: (encWord v ++ [l])
  | .retFarImm16 v => 0xCA#8 :: encWord v
  | .intImm8 n => [0xCD#8, n]
  | .esc x y rm => opReg 0xD8#8 x :: encRm16 y rm
  | .loopne d => [0xE0#8, d]
  | .loope d => [0xE1#8, d]
  | .loop d => [0xE2#8, d]
  | .jcxz d => [0xE3#8, d]
  | .inAlImm8 p => [0xE4#8, p]
  | .inAxImm8 p => [0xE5#8, p]
  | .outImm8Al p => [0xE6#8, p]
  | .outImm8Ax p => [0xE7#8, p]
  | .callNear d => 0xE8#8 :: encWord d
  | .jmpNear d => 0xE9#8 :: encWord d
  | .jmpFar off seg => 0xEA#8 :: (encWord off ++ encWord seg)
  | .jmpShort d => [0xEB#8, d]
  | .testRm8Imm8 rm i => 0xF6#8 :: (encRm8 0 rm ++ [i])
  | .testRm16Imm16 rm v => 0xF7#8 :: (encRm16 0 rm ++ encWord v)
  | .notRm8 rm => 0xF6#8 :: encRm8 2 rm
  | .notRm16 rm => 0xF7#8 :: encRm16 2 rm
  | .negRm8 rm => 0xF6#8 :: encRm8 3 rm
  | .negRm16 rm => 0xF7#8 :: encRm16 3 rm
  | .mulRm8 rm => 0xF6#8 :: encRm8 4 rm
  | .mulRm16 rm => 0xF7#8 :: encRm16 4 rm
  | .imulRm8 rm => 0xF6#8 :: encRm8 5 rm
  | .imulRm16 rm => 0xF7#8 :: encRm16 5 rm
  | .divRm8 rm => 0xF6#8 :: encRm8 6 rm
  | .divRm16 rm => 0xF7#8 :: encRm16 6 rm
  | .idivRm8 rm => 0xF6#8 :: encRm8 7 rm
  | .idivRm16 rm => 0xF7#8 :: encRm16 7 rm
  | .incRm8 rm => 0xFE#8 :: encRm8 0 rm
  | .decRm8 rm => 0xFE#8 :: encRm8 1 rm
  | .incRm16 rm => 0xFF#8 :: encRm16 0 rm
  | .decRm16 rm => 0xFF#8 :: encRm16 1 rm
  | .callRm16 rm => 0xFF#8 :: encRm16 2 rm
  | .callMem32 m => 0xFF#8 :: encMem 3 m
  | .jmpRm16 rm => 0xFF#8 :: encRm16 4 rm
  | .jmpMem32 m => 0xFF#8 :: encMem 5 m
  | .pushRm16 rm => 0xFF#8 :: encRm16 6 rm
  | .pushEs => [0x06#8]
  | .pushCs => [0x0E#8]
  | .pushSs => [0x16#8]
  | .pushDs => [0x1E#8]
  | .popEs => [0x07#8]
  | .popSs => [0x17#8]
  | .popDs => [0x1F#8]
  | .segEs => [0x26#8]
  | .segCs => [0x2E#8]
  | .segSs => [0x36#8]
  | .segDs => [0x3E#8]
  | .daa => [0x27#8]
  | .das => [0x2F#8]
  | .aaa => [0x37#8]
  | .aas => [0x3F#8]
  | .pusha => [0x60#8]
  | .popa => [0x61#8]
  | .insb => [0x6C#8]
  | .insw => [0x6D#8]
  | .outsb => [0x6E#8]
  | .outsw => [0x6F#8]
  | .nop => [0x90#8]
  | .cbw => [0x98#8]
  | .cwd => [0x99#8]
  | .wait => [0x9B#8]
  | .pushf => [0x9C#8]
  | .popf => [0x9D#8]
  | .sahf => [0x9E#8]
  | .lahf => [0x9F#8]
  | .movsb => [0xA4#8]
  | .movsw => [0xA5#8]
  | .cmpsb => [0xA6#8]
  | .cmpsw => [0xA7#8]
  | .stosb => [0xAA#8]
  | .stosw => [0xAB#8]
  | .lodsb => [0xAC#8]
  | .lodsw => [0xAD#8]
  | .scasb => [0xAE#8]
  | .scasw => [0xAF#8]
  | .retNear => [0xC3#8]
  | .leave => [0xC9#8]
  | .retFar => [0xCB#8]
  | .int3 => [0xCC#8]
  | .into => [0xCE#8]
  | .iret => [0xCF#8]
  | .aam => [0xD4#8, 0x0A#8]
  | .aad => [0xD5#8, 0x0A#8]
  | .xlat => [0xD7#8]
  | .inAlDx => [0xEC#8]
  | .inAxDx => [0xED#8]
  | .outDxAl => [0xEE#8]
  | .outDxAx => [0xEF#8]
  | .lock => [0xF0#8]
  | .repne => [0xF2#8]
  | .rep => [0xF3#8]
  | .hlt => [0xF4#8]
  | .cmc => [0xF5#8]
  | .clc => [0xF8#8]
  | .stc => [0xF9#8]
  | .cli => [0xFA#8]
  | .sti => [0xFB#8]
  | .cld => [0xFC#8]
  | .std => [0xFD#8]

end Sys2Proof
end

