-- ==== Sys2Proof/Config.lean ====
section
/-! DEFINITION. What an implementation fixes and the spec leaves open. Every constant here is opaque: nothing in Lean can
evaluate it, so a theorem holds whatever the hardware does. Parameters that the spec gives a default are definitions of
`Machine/Params.lean`. -/

namespace Sys2Proof

/-- The types of bus cycle of Table 3-1 (`20_memory.md` R105). -/
inductive CycleType where
  | interruptAcknowledge | ioRead | ioWrite | halt | instructionPrefetch | memoryRead | memoryWrite | idle
deriving DecidableEq, Repr

/-- The status bits S2 S1 S0 of a bus cycle (R105). -/
def CycleType.status : CycleType → BitVec 3
  | .interruptAcknowledge => 0#3 | .ioRead => 1#3 | .ioWrite => 2#3 | .halt => 3#3
  | .instructionPrefetch => 4#3 | .memoryRead => 5#3 | .memoryWrite => 6#3 | .idle => 7#3

/-- One bus cycle of the log that a run leaves behind (R105, `70_reset_and_hazards.md` R605; log 44). `wide` is a cycle over both
banks, and a byte is zero-extended. A word that is split (`20_memory.md` R82, R90) leaves two events. -/
inductive BusEvent where
  /-- An I/O read: the port, and the value the device supplied. -/
  | input (wide : Bool) (port value : Word)
  /-- An I/O write: the port, and the value. -/
  | output (wide : Bool) (port value : Word)
  /-- A memory read of data: the physical address, and the value. -/
  | memRead (wide : Bool) (addr : Nat) (value : Word)
  /-- A memory write: the physical address, and the value. -/
  | memWrite (wide : Bool) (addr : Nat) (value : Word)
  /-- The Halt bus cycle of HLT (`45_processor_control.md` R480). -/
  | halt
  /-- The Interrupt Acknowledge of a maskable interrupt of this type (`60_exceptions.md` R521). -/
  | intAck (type : Byte)
deriving DecidableEq, Repr

/-- The type of an event's bus cycle (R105). Prefetch and idle cycles leave no event (log 44). -/
def BusEvent.cycleType : BusEvent → CycleType
  | .input _ _ _ => .ioRead
  | .output _ _ _ => .ioWrite
  | .memRead _ _ _ => .memoryRead
  | .memWrite _ _ _ => .memoryWrite
  | .halt => .halt
  | .intAck _ => .interruptAcknowledge

/-- The free values, one fresh word for each number: undefined flags (`93` U2), reserved bits of stored PSW images (`93` U3),
the choice between a stale and a new code byte (`93` U15), the word pushed by `FF /6` with SP (`92` D16). Log 5. -/
opaque Config.freeWord : Nat → Word

/-- What the device at a port answers, a function of the history, the port and the width (`92` D23). Log 10. -/
opaque Config.ioOracle : List BusEvent → Word → Bool → Word

/-- What a read of absent memory, or of a device in memory space, returns: any value (`92` D5, D10), by the count of free values drawn so far and the address. Log 20. -/
opaque Config.openBus : Nat → Nat → Byte

/-- BUS16 (`00_scope.md` R8): true for the 80C186XL, false for the 80C188XL. Log 26. -/
opaque Config.bus16 : Bool

/-- IDIV_MIN_QUOTIENT_OK (`00_scope.md` R8, `92` D14): whether a quotient of exactly -2^(W-1) is delivered or raises type 0. Log 12. -/
opaque Config.idivMinQuotientOk : Bool

/-- DIVERR_SAVES_NEXT_IP (`00_scope.md` R8, `92` D13): whether the divide error saves the next instruction's address or the
dividing instruction's. Log 11. -/
opaque Config.diverrSavesNextIp : Bool

/-- BOUND_SAVES_NEXT_IP (R8, `92` D13): the same choice for BOUND. Log 11. -/
opaque Config.boundSavesNextIp : Bool

/-- Whether the single-step trap is taken after each iteration of a repeated string instruction or after the whole of it
(`43_string.md` R361, `91` N32). Log 16. -/
opaque Config.stepTrapEachIteration : Bool

/-- Whether interrupts are recognised between the iterations of a LOCKed repeated string: `43_string.md` R362 has such a string
interrupted and lose its LOCK, `60_exceptions.md` R532 has it not interrupted. Log 17. -/
opaque Config.lockedRepInterruptible : Bool

end Sys2Proof
end

