-- ==== Sys2Proof/Machine/Params.lean ====
section
/-! DEFINITION. The parameters of `00_scope.md` R8 and `92_eei_decisions.md` to which the model gives a value. -/

namespace Sys2Proof.Machine

open Sys2Proof

/-- DIVERR_SAVES_NEXT_IP (R8): left open (log 11). -/
def diverrSavesNextIp : Bool := Config.diverrSavesNextIp

/-- BOUND_SAVES_NEXT_IP (R8): left open (log 11). -/
def boundSavesNextIp : Bool := Config.boundSavesNextIp

/-- MODEL_INVALID_OPCODE (`92` D3): the model raises type 6 (log 6). -/
def modelInvalidOpcode : Bool := true

/-- QUEUE_BYTES (R8): six for the 80C186XL, four for the 80C188XL (log 19). -/
def queueBytes : Nat := if Config.bus16 then 6 else 4

/-- The queue may hold the byte at distance `k` from the next instruction: `k` is below `queueBytes`, in a form that needs BUS16 only
where the two parts differ. -/
def mayBeQueued (k : Nat) : Bool := decide (k < 4) || (decide (k < 6) && Config.bus16)

/-- IDIV_MIN_QUOTIENT_OK (R8): left open (log 12). -/
def idivMinQuotientOk : Bool := Config.idivMinQuotientOk

end Sys2Proof.Machine
end

