-- ==== Sys2Proof/Machine/State.lean ====
section
/-! DEFINITION. The state of the machine, how it can stop, and the state after reset. -/

namespace Sys2Proof.Machine

open Sys2Proof

/-- The eight general registers (`10_state.md` R21). -/
structure Regs where
  ax : Word
  cx : Word
  dx : Word
  bx : Word
  sp : Word
  bp : Word
  si : Word
  di : Word
deriving DecidableEq, Repr

/-- The four segment registers (`10_state.md` R25). -/
structure SRegs where
  es : Word
  cs : Word
  ss : Word
  ds : Word
deriving DecidableEq, Repr

/-- The nine named flags of the PSW (`10_state.md` R34). Bits 15:12, 5, 3 and 1 have no content (R38) and so no field. `ifl`
and `ofl` are IF and OF. -/
structure Flags where
  cf : Bool
  pf : Bool
  af : Bool
  zf : Bool
  sf : Bool
  tf : Bool
  ifl : Bool
  df : Bool
  ofl : Bool
deriving DecidableEq, Repr

/-- Memory: the bytes that are not zero, by rising physical address (`20_memory.md` R70; log 3). -/
abbrev Memory := List Host.Cell

/-- What a range of memory holds in place of RAM (`20_memory.md` R91, R96, `92` D5). -/
inductive RegionKind where
  | rom | absent | device
deriving DecidableEq, Repr

/-- A range of physical addresses of the memory map (`20_memory.md` R96). -/
structure Region where
  base : Nat
  size : Nat
  kind : RegionKind
deriving DecidableEq, Repr

/-- The prefixes read so far (`30_encoding.md` R140). -/
structure Prefixes where
  seg : Option SReg
  rep : Option Rep
  lock : Bool
deriving DecidableEq, Repr

/-- What the input pins do during one step (log 21): an edge on NMI, the level of the maskable request with its type, the level
of TEST#, and RES#. -/
structure EnvInput where
  nmiEdge : Bool
  intr : Option Byte
  test : Bool
  reset : Bool
deriving DecidableEq, Repr

/-- The machine. Each field's rule and reset value are in INVENTORY.md. -/
structure State where
  regs : Regs
  sregs : SRegs
  /-- The architectural IP (`10_state.md` R30). -/
  ip : Word
  flags : Flags
  mem : Memory
  memMap : List Region
  /-- PCB_IN_MEMORY (`00_scope.md` R8): the Peripheral Control Block stands in memory space, not I/O space. -/
  pcbInMemory : Bool
  /-- PCB_BASE (R8): the first address of its 256 bytes. -/
  pcbBase : Nat
  /-- Bytes that stores replaced while the prefetch queue may have held them (`20_memory.md` R100, log 19). -/
  stale : List Host.Cell
  /-- The bytes written to devices in memory space, oldest first (`20_memory.md` R91, `92` D10, log 20). -/
  devWrites : List Host.Cell
  /-- `nmi_pending` (`10_state.md` R51). -/
  nmiPending : Bool
  /-- `intr_request` with the type the ICU supplies (`10_state.md` R52). -/
  intr : Option Byte
  /-- `inhibit_next` (`10_state.md` R53): the boundary where the machine stands is in the shadow of a segment load. -/
  inhibitNext : Bool
  /-- The delay of STI (`45_processor_control.md` R476) at the boundary where the machine stands. -/
  stiShadow : Bool
  /-- The instruction in progress follows a segment load: the shadow lasts until it completes (`60_exceptions.md` R531, log 40). -/
  inShadow : Bool
  /-- The instruction in progress follows an STI that set IF: the delay lasts until it completes (R476, `92` D12, log 40). -/
  inStiShadow : Bool
  /-- `halted` (`10_state.md` R54). -/
  halted : Bool
  /-- The last instruction was WAIT: no single-step trap after it (`60_exceptions.md` R523). -/
  afterWait : Bool
  /-- The TEST# pin is active (`45_processor_control.md` R481). -/
  testActive : Bool
  /-- The Escape Trap bit of the Relocation Register (`10_state.md` R46). -/
  et : Bool
  /-- NUMERICS_MODE (`00_scope.md` R8). -/
  numericsMode : Bool
  /-- The last byte executed was a prefix: its instruction is not complete (`30_encoding.md` R140, log 1). -/
  inPrefix : Bool
  pfx : Prefixes
  /-- A repeated string instruction between two of its iterations (`43_string.md` R362, log 15). -/
  repeating : Option Instr
  /-- `IP_start`: the offset of the current instruction's first byte, prefixes included (`30_encoding.md` R141). -/
  startIp : Word
  /-- The offset of the current instruction's opcode byte. -/
  opIp : Word
  /-- The bus cycles a run leaves behind, oldest first (`70_reset_and_hazards.md` R605, log 10). -/
  busLog : List BusEvent
  /-- Values that devices will supply, before `Config.ioOracle` does (`92` D23, log 10). -/
  ioIn : List Word
  /-- What the input pins will do, one entry a step (log 21). -/
  env : List EnvInput
  /-- How many free values have been used (log 5). -/
  freeCount : Nat
deriving DecidableEq, Repr

/-- The faults: the spec gives these accesses no meaning, and the model stops. No interrupt type belongs to them
(`20_memory.md` R77). -/
inductive Fault where
  /-- A word, or a far pointer, that would cross offset 0FFFFH of its segment (`20_memory.md` R83). Raised by every access of a
  word; safe: silicon goes on in one of two ways. -/
  | wordPastSegmentEnd
  /-- A word I/O access at port 0FFFFH (`92` D29). Raised by IN, OUT, INS, OUTS; safe. -/
  | wordPastLastPort
deriving DecidableEq, Repr

/-- The refusals: the spec gives no meaning, or refuses. -/
inductive Refusal where
  /-- An instruction the model does not hold; raised by no arm of `exec`. Safe. -/
  | notModelled (mnemonic : String)
  /-- An alias or undocumented encoding (`30_encoding.md` R171, `92` D32). Raised by the step. Safe. -/
  | undocumentedEncoding
  /-- An undefined encoding when `modelInvalidOpcode` is off (`92` D3). Raised by the step. Safe. -/
  | undefinedOpcode
  /-- `F2` and `F3` before one instruction (`92` D33). Raised by the second of the two. Safe. -/
  | repConflict
  /-- `F2` before MOVS, LODS, STOS, INS or OUTS (`43_string.md` R361). Raised by those. Safe. -/
  | repneOnNonCompare
  /-- A repeat prefix before an instruction that is no string instruction (`43_string.md` R361). Raised by the step. Safe. -/
  | repOnNonString
  /-- An I/O access to ports 0F8H to 0FFH (`93` U8). Raised by IN, OUT, INS, OUTS. Safe. -/
  | reservedPort
  /-- ESC handed to an 80C187 (`45_processor_control.md` R485, `92` D17). Raised by ESC. Safe. -/
  | coprocessor
  /-- An interrupt frame that overlaps the vector in use (`90_conflicts.md` C3). Raised by every interrupt entry. Safe. -/
  | vectorOverlap
deriving DecidableEq, Repr

/-- What `exec` and `step` answer. -/
abbrev Result := Host.Outcome State Fault Refusal

/-- No prefix. -/
def Prefixes.none : Prefixes := { seg := Option.none, rep := Option.none, lock := false }

/-- The state after reset (`10_state.md` R60). The general registers are zero (the spec: undefined; log 2); memory lists
nothing (log 3); ET is 0 (log 26), and the Peripheral Control Block is at I/O 0FF00H (log 20). -/
def State.reset : State :=
  { regs := { ax := 0, cx := 0, dx := 0, bx := 0, sp := 0, bp := 0, si := 0, di := 0 }
    sregs := { es := 0, cs := 0xFFFF, ss := 0, ds := 0 }
    ip := 0
    flags := { cf := false, pf := false, af := false, zf := false, sf := false, tf := false, ifl := false, df := false,
               ofl := false }
    mem := []
    memMap := []
    pcbInMemory := false
    pcbBase := 0xFF00
    stale := []
    devWrites := []
    nmiPending := false
    intr := none
    inhibitNext := false
    stiShadow := false
    inShadow := false
    inStiShadow := false
    halted := false
    afterWait := false
    testActive := true
    et := false
    numericsMode := false
    inPrefix := false
    pfx := Prefixes.none
    repeating := none
    startIp := 0
    opIp := 0
    busLog := []
    ioIn := []
    env := []
    freeCount := 0 }

end Sys2Proof.Machine
end

