-- ==== Sys2Proof/Machine/Memory.lean ====
section
/-! DEFINITION. Memory: the canonical list of bytes, physical addresses, the memory map, and byte and word accesses. -/

namespace Sys2Proof.Machine

open Sys2Proof

/-- How many bytes the memory space has (`20_memory.md` R70). -/
def memSize : Nat := 2 ^ 20

/-- The byte at an address; an address that is not listed reads as 00H (log 3). -/
def Memory.read : Memory → Nat → Byte
  | [], _ => 0
  | (b, v) :: m, a => if b = a then v else Memory.read m a

/-- The memory without an entry for the address. -/
def Memory.erase : Memory → Nat → Memory
  | [], _ => []
  | (b, v) :: m, a => if b = a then Memory.erase m a else (b, v) :: Memory.erase m a

/-- The memory with an entry put where its address belongs. -/
def Memory.insert : Memory → Nat → Byte → Memory
  | [], a, v => [(a, v)]
  | (b, w) :: m, a, v => if a < b then (a, v) :: (b, w) :: m else (b, w) :: Memory.insert m a v

/-- A write. Writing 00H, which an unlisted address reads as, removes the entry. -/
def Memory.write (m : Memory) (a : Nat) (v : Byte) : Memory :=
  if v = 0 then Memory.erase m a else Memory.insert (Memory.erase m a) a v

/-- The canonical form: addresses strictly rising and inside the space, no entry that reads as an unlisted address does. -/
abbrev Memory.wf (m : Memory) : Prop :=
  List.Pairwise (fun c d : Host.Cell => c.1 < d.1) m ∧ ∀ c ∈ m, c.1 < memSize ∧ c.2 ≠ 0

/-- `phys` (`20_memory.md` R72): the carry out of 20 bits is dropped. -/
def phys (seg off : Word) : Nat := (seg.toNat * 16 + off.toNat) % memSize

/-- The physical address after this one (R80). -/
def nextAddr (a : Nat) : Nat := (a + 1) % memSize

/-- What the memory map has at an address; `none` is RAM (`92` D5). -/
def regionAt (a : Nat) : List Region → Option RegionKind
  | [] => none
  | r :: rs => if r.base ≤ a ∧ a < r.base + r.size then some r.kind else regionAt a rs

/-- The Peripheral Control Block stands at a physical address (`20_memory.md` R96, `92` D10). -/
def State.isPcb (s : State) (a : Nat) : Bool := s.pcbInMemory && decide (s.pcbBase ≤ a ∧ a < s.pcbBase + 256)

/-- What stands at a physical address; `none` is RAM (`92` D5, D10). -/
def State.region (s : State) (a : Nat) : Option RegionKind := if s.isPcb a then some .device else regionAt a s.memMap

/-- The value of `MemRead(a, 1)`. Absent memory and a device return any value (`92` D5, D10, log 20). -/
def State.loadByte (s : State) (a : Nat) : Byte :=
  match s.region a with
  | none => Memory.read s.mem a
  | some .rom => Memory.read s.mem a
  | some .absent => Config.openBus s.freeCount a
  | some .device => Config.openBus s.freeCount a

/-- The address is in the window the prefetch queue may hold (`20_memory.md` R100): `queueBytes` bytes from CS:IP on. -/
def State.inQueueWindow (s : State) (a : Nat) : Bool :=
  (List.range 6).any fun k => phys s.sregs.cs (s.ip + BitVec.ofNat 16 k) == a && mayBeQueued k

/-- `MemWrite(a, 1, v)`. A write to ROM or absent memory is dropped (`92` D5), one to a device is
recorded (D10, log 20); a write into the queue's window leaves the old
byte as one the fetch may still see (R100, log 19). -/
def State.storeByte (s : State) (a : Nat) (v : Byte) : State :=
  match s.region a with
  | some .rom => s
  | some .absent => s
  | some .device => { s with devWrites := s.devWrites ++ [(a, v)] }
  | none =>
    { s with
      mem := Memory.write s.mem a v
      stale := if s.inQueueWindow a then (a, Memory.read s.mem a) :: s.stale else s.stale }

/-- The value of `MemRead(a, 2)` (R80). -/
def State.loadWord (s : State) (a : Nat) : Word := joinBytes (s.loadByte a) (s.loadByte (nextAddr a))

/-- `MemWrite(a, 2, v)` (R80): the low byte first. -/
def State.storeWord (s : State) (a : Nat) (v : Word) : State :=
  (s.storeByte a (lowByte v)).storeByte (nextAddr a) (highByte v)

end Sys2Proof.Machine
end

