-- ==== Sys2Proof/Machine/Ops.lean ====
section
/-! DEFINITION. The named operations of `00_scope.md` R11 to R13 over registers, memory, the stack and I/O; taking an interrupt or
exception (`60_exceptions.md` R510) and the return from it. -/

namespace Sys2Proof.Machine

open Sys2Proof

/-! ### Stopping -/

/-- Why a meaning stops. -/
inductive Stop where
  | fault (f : Fault)
  | refused (r : Refusal)
deriving DecidableEq, Repr

/-- The outcome of a meaning. -/
def outcome : Except Stop State → Result
  | .ok s => .next s
  | .error (.fault f) => .fault f
  | .error (.refused r) => .refused r

/-! ### Registers -/

/-- `reg16[r]` (R11). -/
def State.reg16 (s : State) : Reg16 → Word
  | .ax => s.regs.ax | .cx => s.regs.cx | .dx => s.regs.dx | .bx => s.regs.bx
  | .sp => s.regs.sp | .bp => s.regs.bp | .si => s.regs.si | .di => s.regs.di

/-- `reg16[r] <- v`. -/
def State.setReg16 (s : State) (r : Reg16) (v : Word) : State :=
  match r with
  | .ax => { s with regs := { s.regs with ax := v } }
  | .cx => { s with regs := { s.regs with cx := v } }
  | .dx => { s with regs := { s.regs with dx := v } }
  | .bx => { s with regs := { s.regs with bx := v } }
  | .sp => { s with regs := { s.regs with sp := v } }
  | .bp => { s with regs := { s.regs with bp := v } }
  | .si => { s with regs := { s.regs with si := v } }
  | .di => { s with regs := { s.regs with di := v } }

/-- The word register a byte register is half of (`10_state.md` R22). -/
def wholeReg : Reg8 → Reg16
  | .al => .ax | .cl => .cx | .dl => .dx | .bl => .bx | .ah => .ax | .ch => .cx | .dh => .dx | .bh => .bx

/-- Whether a byte register is the upper half. -/
def isHighHalf : Reg8 → Bool
  | .al => false | .cl => false | .dl => false | .bl => false | .ah => true | .ch => true | .dh => true | .bh => true

/-- `reg8[r]` (`10_state.md` R22). -/
def State.reg8 (s : State) (r : Reg8) : Byte :=
  if isHighHalf r then highByte (s.reg16 (wholeReg r)) else lowByte (s.reg16 (wholeReg r))

/-- `reg8[r] <- v`: the other half stays (`10_state.md` R22). -/
def State.setReg8 (s : State) (r : Reg8) (v : Byte) : State :=
  s.setReg16 (wholeReg r)
    (if isHighHalf r then joinBytes (lowByte (s.reg16 (wholeReg r))) v
     else joinBytes v (highByte (s.reg16 (wholeReg r))))

/-- `sreg[r]`. -/
def State.sreg (s : State) : SReg → Word
  | .es => s.sregs.es | .cs => s.sregs.cs | .ss => s.sregs.ss | .ds => s.sregs.ds

/-- `sreg[r] <- v`. -/
def State.setSReg (s : State) (r : SReg) (v : Word) : State :=
  match r with
  | .es => { s with sregs := { s.sregs with es := v } }
  | .cs => { s with sregs := { s.sregs with cs := v } }
  | .ss => { s with sregs := { s.sregs with ss := v } }
  | .ds => { s with sregs := { s.sregs with ds := v } }

/-- The flags replaced. -/
def State.setFlags (s : State) (f : Flags) : State := { s with flags := f }

/-- IP replaced, with no transfer of control. -/
def State.setIp (s : State) (v : Word) : State := { s with ip := v }

/-! ### Free values -/

/-- The next free value (log 5). -/
def State.free (s : State) : Word := Config.freeWord s.freeCount

/-- The next free value is used up. -/
def State.nextFree (s : State) : State := { s with freeCount := s.freeCount + 1 }

/-! ### Transfers of control -/

/-- `IP <- t` (R13): the prefetch queue is discarded. -/
def State.jump (s : State) (t : Word) : State := { s with ip := t, stale := [] }

/-- `CS:IP <- seg:off` (R13). -/
def State.farJump (s : State) (seg off : Word) : State := (s.setSReg .cs seg).jump off

/-! ### Bus cycles -/

/-- Events are appended to the log (`70_reset_and_hazards.md` R605). -/
def State.logEvents (s : State) (es : List BusEvent) : State := { s with busLog := s.busLog ++ es }

/-- A word at this address or port takes two byte cycles: at an odd one, and always on the 8-bit bus (`20_memory.md` R82, R90). -/
def splits (a : Nat) : Bool := a % 2 == 1 || !Config.bus16

/-- The cycles of a word transfer between `a` and the byte after it, `a'`: one over both banks, or two, the low byte's first (R82). -/
def wordCycles {α : Type} (cycle : Bool → α → Word → BusEvent) (split : Bool) (a a' : α) (v : Word) : List BusEvent :=
  if split then [cycle false a (zeroExt (lowByte v)), cycle false a' (zeroExt (highByte v))] else [cycle true a v]

/-- The cycles of `MemRead(a, 2)`. -/
def State.wordReadCycles (s : State) (a : Nat) : List BusEvent := wordCycles .memRead (splits a) a (nextAddr a) (s.loadWord a)

/-- `MemRead(a, 1)`: the value, and the state with its cycle logged. -/
def memReadByte (a : Nat) (s : State) : Byte × State :=
  (s.loadByte a, s.logEvents [.memRead false a (zeroExt (s.loadByte a))])

/-- `MemRead(a, 2)`. -/
def memReadWord (a : Nat) (s : State) : Word × State := (s.loadWord a, s.logEvents (s.wordReadCycles a))

/-! ### Memory by segment and offset -/

/-- `Read(seg, off, 1)`. -/
def readByte (seg off : Word) (s : State) : Byte × State := memReadByte (phys seg off) s

/-- `Write(seg, off, 1, v)`. -/
def writeByte (seg off : Word) (v : Byte) (s : State) : State :=
  (s.storeByte (phys seg off) v).logEvents [.memWrite false (phys seg off) (zeroExt v)]

/-- `Read(seg, off, 2)`; offset 0FFFFH has no meaning (`20_memory.md` R83). -/
def readWord (seg off : Word) (s : State) : Except Stop (Word × State) :=
  if off = 0xFFFF#16 then .error (.fault .wordPastSegmentEnd) else .ok (memReadWord (phys seg off) s)

/-- `Write(seg, off, 2, v)`; offset 0FFFFH has no meaning (R83). -/
def writeWord (seg off v : Word) (s : State) : Except Stop State :=
  if off = 0xFFFF#16 then .error (.fault .wordPastSegmentEnd)
  else .ok ((s.storeWord (phys seg off) v).logEvents
    (wordCycles .memWrite (splits (phys seg off)) (phys seg off) (nextAddr (phys seg off)) v))

/-- A far pointer, offset and segment: the offset word is read first (`20_memory.md` R81, R88). One that would cross offset 0FFFFH
has no meaning (R83). -/
def readPointer (seg off : Word) (s : State) : Except Stop (Word × Word × State) :=
  if 0xFFFC#16 < off then .error (.fault .wordPastSegmentEnd)
  else
    let lo := memReadWord (phys seg off) s
    let hi := memReadWord (phys seg (off + 2)) lo.2
    .ok (lo.1, hi.1, hi.2)

/-! ### The stack -/

/-- `Push(v)` (`20_memory.md` R86). -/
def push (v : Word) (s : State) : Except Stop State :=
  writeWord s.sregs.ss (s.regs.sp - 2) v (s.setReg16 .sp (s.regs.sp - 2))

/-- `Pop()` (`20_memory.md` R86). -/
def pop (s : State) : Except Stop (Word × State) := do
  let (v, s) ← readWord s.sregs.ss s.regs.sp s
  .ok (v, s.setReg16 .sp (s.regs.sp + 2))

/-! ### The PSW as a word -/

/-- The PSW image that PUSHF, LAHF and an interrupt entry store (`10_state.md` R34); the reserved bits are those of `u`, a free
value (R38, `92` D6, log 4). -/
def Flags.image (f : Flags) (u : Word) : Word :=
  BitVec.ofBoolListLE [f.cf, u.getLsbD 1, f.pf, u.getLsbD 3, f.af, u.getLsbD 5, f.zf, f.sf, f.tf, f.ifl, f.df, f.ofl,
    u.getLsbD 12, u.getLsbD 13, u.getLsbD 14, u.getLsbD 15]

/-- The flags that POPF and IRET load from an image (`40_data_transfer.md` R253). -/
def flagsOfImage (t : Word) : Flags :=
  { cf := t.getLsbD 0, pf := t.getLsbD 2, af := t.getLsbD 4, zf := t.getLsbD 6, sf := t.getLsbD 7, tf := t.getLsbD 8,
    ifl := t.getLsbD 9, df := t.getLsbD 10, ofl := t.getLsbD 11 }

/-! ### I/O -/

/-- An access touches the ports 0F8H to 0FFH, which the model refuses (`93` U8). -/
def touchesReservedPort (wide : Bool) (port : Word) : Bool :=
  (if wide then 0x00F7#16 ≤ port else 0x00F8#16 ≤ port) && port ≤ 0x00FF#16

/-- Whether the spec gives an I/O access a meaning (`92` D29, `93` U8). -/
def checkPort (wide : Bool) (port : Word) : Except Stop Unit :=
  if wide && port == 0xFFFF#16 then .error (.fault .wordPastLastPort)
  else if touchesReservedPort wide port then .error (.refused .reservedPort)
  else .ok ()

/-- What the device at a port supplies in one bus cycle (`92` D23, log 10). -/
def State.deviceValue (s : State) (wide : Bool) (port : Word) : Word :=
  match s.ioIn with
  | v :: _ => v
  | [] => Config.ioOracle s.busLog port wide

/-- The byte a device supplies in a byte cycle. -/
def State.deviceByte (s : State) (port : Word) : Byte := lowByte (s.deviceValue false port)

/-- The state after a byte cycle that reads a port. -/
def State.afterByteIn (s : State) (port : Word) : State :=
  { s with ioIn := s.ioIn.tail, busLog := s.busLog ++ [.input false port (zeroExt (s.deviceByte port))] }

/-- The word a port supplies: in one cycle, or the byte at `port` and then the byte at `port + 1` (`20_memory.md` R90). -/
def State.deviceWord (s : State) (port : Word) : Word :=
  if splits port.toNat then joinBytes (s.deviceByte port) ((s.afterByteIn port).deviceByte (port + 1)) else s.deviceValue true port

/-- `IoRead(port, 1)` (R90). -/
def ioReadByte (port : Word) (s : State) : Except Stop (Byte × State) := do
  checkPort false port
  .ok (s.deviceByte port, s.afterByteIn port)

/-- `IoRead(port, 2)` (R90): each cycle takes one of the supplied values. -/
def ioReadWord (port : Word) (s : State) : Except Stop (Word × State) := do
  checkPort true port
  .ok (s.deviceWord port,
    { s with
      ioIn := if splits port.toNat then s.ioIn.tail.tail else s.ioIn.tail
      busLog := s.busLog ++ wordCycles .input (splits port.toNat) port (port + 1) (s.deviceWord port) })

/-- `IoWrite(port, 1, v)` (R90). -/
def ioWriteByte (port : Word) (v : Byte) (s : State) : Except Stop State := do
  checkPort false port
  .ok (s.logEvents [.output false port (zeroExt v)])

/-- `IoWrite(port, 2, v)` (R90). -/
def ioWriteWord (port v : Word) (s : State) : Except Stop State := do
  checkPort true port
  .ok (s.logEvents (wordCycles .output (splits port.toNat) port (port + 1) v))

/-! ### Interrupts and exceptions -/

/-- An instruction that is not over stands at a boundary with the shadow and the delay it began with: they last until it completes
(`60_exceptions.md` R531, `92` D12, log 40). -/
def State.holdShadows (s : State) : State := { s with inhibitNext := s.inShadow, stiShadow := s.inStiShadow }

/-- The physical addresses of the three words that an interrupt entry pushes. -/
def frameBytes (s : State) : List Nat :=
  [phys s.sregs.ss (s.regs.sp - 2), nextAddr (phys s.sregs.ss (s.regs.sp - 2)),
   phys s.sregs.ss (s.regs.sp - 4), nextAddr (phys s.sregs.ss (s.regs.sp - 4)),
   phys s.sregs.ss (s.regs.sp - 6), nextAddr (phys s.sregs.ss (s.regs.sp - 6))]

/-- The frame overlaps the vector of type `n` (`20_memory.md` R107, `90_conflicts.md` C3). -/
def frameOverlaps (n : Byte) (s : State) : Bool :=
  (frameBytes s).any fun a => 4 * n.toNat ≤ a && a < 4 * n.toNat + 4

/-- No instruction is in progress: prefixes, a repeated string and a halt are over. -/
def State.endContext (s : State) : State :=
  { s with inPrefix := false, pfx := Prefixes.none, repeating := none, halted := false }

/-- `raise Interrupt(n)`, the interrupt sequence (`60_exceptions.md` R510). The return address is CS:IP of the state: the caller
has set IP for a fault (R505). The cycles stand in the log in the bus order of `90_conflicts.md` C3, the vector before the pushes,
which leaves the state that the order of R510 leaves (R107). -/
def enter (n : Byte) (s : State) : Except Stop State := do
  if frameOverlaps n s then
    .error (.refused .vectorOverlap)
  else
    let newIp := memReadWord (4 * n.toNat) s
    let newCs := memReadWord (4 * n.toNat + 2) newIp.2
    let pushed ← push (s.flags.image s.free) newCs.2.nextFree
    let masked := pushed.setFlags { pushed.flags with tf := false, ifl := false }
    let withCs ← push masked.sregs.cs masked
    let framed ← push withCs.ip withCs
    .ok (framed.endContext.farJump newCs.1 newIp.1)

/-- A fault (R505): the return address is the first byte of the instruction, prefixes included. -/
def enterAtStart (n : Byte) (s : State) : Except Stop State := enter n (s.setIp s.startIp)

/-- The return from an interrupt (`60_exceptions.md` R511, `44_program_transfer.md` R454). -/
def returnFromInterrupt (s : State) : Except Stop State := do
  let (ip, s) ← pop s
  let (cs, s) ← pop s
  let (t, s) ← pop s
  .ok ((s.setFlags (flagsOfImage t)).farJump cs ip)

end Sys2Proof.Machine
end

