-- ==== Sys2Proof/Machine/Boundary.lean ====
section
/-! DEFINITION. What happens between instructions: the inputs of the environment, which interrupts are taken at a boundary
(`60_exceptions.md` R531 to R540), the single-step trap, reset, and an undefined opcode. -/

namespace Sys2Proof.Machine

open Sys2Proof

/-! ### Inputs -/

/-- Eight free words in the general registers, whose contents are undefined after a reset (`10_state.md` R24). -/
def freeRegs (n : Nat) : Regs :=
  { ax := Config.freeWord n, cx := Config.freeWord (n + 1), dx := Config.freeWord (n + 2), bx := Config.freeWord (n + 3),
    sp := Config.freeWord (n + 4), bp := Config.freeWord (n + 5), si := Config.freeWord (n + 6),
    di := Config.freeWord (n + 7) }

/-- RES# asserted while the machine runs (`70_reset_and_hazards.md` R580, `92` D30): memory, the board and the log stay (R584, log 34). -/
def warmReset (s : State) : State :=
  { State.reset with
    regs := freeRegs s.freeCount
    mem := s.mem
    memMap := s.memMap
    testActive := s.testActive
    numericsMode := s.numericsMode
    busLog := s.busLog
    devWrites := s.devWrites
    ioIn := s.ioIn
    env := s.env
    freeCount := s.freeCount + 8 }

/-- The input pins as one entry of the schedule has them, RES# apart: an NMI edge is latched, one deep (`60_exceptions.md` R520,
`92` D34); the request and TEST# are levels (log 21). -/
def State.setPins (s : State) (e : EnvInput) : State :=
  { s with nmiPending := s.nmiPending || e.nmiEdge, intr := e.intr, testActive := e.test }

/-! ### Recognition -/

/-- Interrupts and traps can be taken here (R531): not after a prefix, not in the shadow of a segment load, and between two
iterations of a LOCKed repeated string only if the hardware does so (`43_string.md` R362 against R532, log 17). -/
def boundaryOpen (s : State) : Bool :=
  !s.inPrefix && !s.inhibitNext && (s.repeating.isNone || !s.pfx.lock || Config.lockedRepInterruptible)

/-- An interrupt that waits at a boundary. -/
inductive Due where
  | nmi
  | intr (n : Byte)
deriving DecidableEq, Repr

/-- The interrupt that an open boundary takes: NMI first (R535), else a maskable request with IF set (R521) outside the delay of
STI (`45_processor_control.md` R476). -/
def dueInterrupt (s : State) : Option Due :=
  if boundaryOpen s then
    if s.nmiPending then some .nmi
    else if s.flags.ifl && !s.stiShadow then s.intr.map .intr
    else none
  else none

/-- An interrupt taken: the latch or the request cleared, and the sequence of R510 (R520, R521). -/
def takeInterrupt (d : Due) (s : State) : Except Stop State :=
  match d with
  | .nmi => enter 2 { s with nmiPending := false }
  | .intr n => enter n ({ s with intr := none }.logEvents [.intAck n])

/-- The single-step trap is due at the boundary after an instruction that began with TF = `tf0` (R523); not after WAIT, and between
two iterations of a repeated string only if the hardware does so (log 16). -/
def stepTrapDue (tf0 : Bool) (s : State) : Bool :=
  tf0 && boundaryOpen s && !s.afterWait && (s.repeating.isNone || Config.stepTrapEachIteration)

/-- The interrupt that waits at this boundary, if there is one (R537). -/
def takeDue (s : State) : Except Stop State :=
  match dueInterrupt s with
  | some d => takeInterrupt d s
  | none => .ok s

/-- The single-step trap when it is due: an interrupt of the same boundary vectors first (R537, R538). -/
def stepTrap (tf0 : Bool) (s : State) : Except Stop State :=
  if stepTrapDue tf0 s then do
    let t ← takeDue s
    enter 1 t
  else .ok s

/-! ### Around an instruction -/

/-- An instruction of `len` bytes starts: IP goes past it (`10_state.md` R31), and the marks of the last instruction become marks of
this one until it completes (R531, log 40), also where it is the first of a handler (log 45). After a prefix the first byte stays where the prefixes began (`30_encoding.md` R141). -/
def begin (len : Nat) (s : State) : State :=
  { s with
    startIp := if s.inPrefix then s.startIp else s.ip
    opIp := s.ip
    ip := s.ip + BitVec.ofNat 16 len
    inPrefix := false
    inShadow := if s.inPrefix then s.inShadow else s.inhibitNext
    inStiShadow := if s.inPrefix then s.inStiShadow else s.stiShadow
    inhibitNext := false
    stiShadow := false
    afterWait := false
    freeCount := s.freeCount + 1 }

/-- The next iteration of a repeated string starts: IP is past its opcode byte again (log 15), and the marks it began with stay its own
(log 40). -/
def resume (s : State) : State :=
  { s with
    ip := s.opIp + 1
    repeating := none
    inShadow := s.inhibitNext
    inStiShadow := s.stiShadow
    inhibitNext := false
    stiShadow := false
    afterWait := false
    freeCount := s.freeCount + 1 }

/-- An instruction that is complete takes its prefixes with it (`30_encoding.md` R140). -/
def retire (s : State) : State :=
  if s.inPrefix || s.repeating.isSome then s else { s with pfx := Prefixes.none }

/-- The end of a step: one entry of the schedule is read, a reset is done, and the single-step trap is taken when it is due. -/
def finishState (tf0 : Bool) (s : State) : Except Stop State :=
  match s.env with
  | [] => stepTrap tf0 (retire s)
  | e :: rest =>
    if e.reset then .ok (warmReset { s with env := rest })
    else stepTrap tf0 (retire ({ s with env := rest }.setPins e))

/-- The end of a step after a meaning; a stop stays. -/
def finish (tf0 : Bool) (r : Result) : Result :=
  match r with
  | .next s => outcome (finishState tf0 s)
  | .fault f => .fault f
  | .refused x => .refused x

/-- An undefined encoding raises type 6 with the address of its first byte saved (R528, `92` D3, log 6). -/
def invalidOpcode (s : State) : Except Stop State :=
  if modelInvalidOpcode then enterAtStart 6 s else .error (.refused .undefinedOpcode)

/-- The string instructions and the prefixes, before which a repeat prefix may stand (`43_string.md` R361). -/
def takesRep : Instr → Bool
  | .movsb => true | .movsw => true | .cmpsb => true | .cmpsw => true | .scasb => true | .scasw => true
  | .lodsb => true | .lodsw => true | .stosb => true | .stosw => true
  | .insb => true | .insw => true | .outsb => true | .outsw => true
  | .segEs => true | .segCs => true | .segSs => true | .segDs => true
  | .lock => true | .rep => true | .repne => true
  | _ => false

/-- A repeat prefix before an instruction that takes none (log 18). -/
def repMisused (i : Instr) (s : State) : Bool := s.pfx.rep.isSome && !takesRep i

end Sys2Proof.Machine
end

