-- ==== Sys2Proof/Machine/Flags.lean ====
section
/-! DEFINITION. Results and flags of arithmetic, logic, shifts and rotates (`00_scope.md` R14, `10_state.md` R39). A `Word` called
`u` is a free value: an undefined flag takes the bit of `u` at the flag's place in the PSW (log 5). -/

namespace Sys2Proof.Machine

open Sys2Proof

/-- `parity8` (R14): the byte has an even number of 1 bits. -/
def parity8 (b : Byte) : Bool :=
  !(b.getLsbD 0 ^^ b.getLsbD 1 ^^ b.getLsbD 2 ^^ b.getLsbD 3 ^^ b.getLsbD 4 ^^ b.getLsbD 5 ^^ b.getLsbD 6 ^^ b.getLsbD 7)

/-- `setSZP_W` (R14). -/
def Flags.setSZP {w : Nat} (f : Flags) (r : BitVec w) : Flags :=
  { f with sf := r.msb, zf := r == 0#w, pf := parity8 (r.setWidth 8) }

/-- `add_W(a, b, c)` (R14). -/
def addW {w : Nat} (a b : BitVec w) (c : Bool) (f : Flags) : BitVec w × Flags :=
  let s := a.toNat + b.toNat + c.toNat
  let r := BitVec.ofNat w s
  (r, { f with
          cf := 2 ^ w ≤ s
          af := 16 ≤ a.toNat % 16 + b.toNat % 16 + c.toNat
          ofl := a.msb == b.msb && r.msb != a.msb }.setSZP r)

/-- `sub_W(a, b, c)` (R14). -/
def subW {w : Nat} (a b : BitVec w) (c : Bool) (f : Flags) : BitVec w × Flags :=
  let r := a - b - BitVec.ofNat w c.toNat
  (r, { f with
          cf := a.toNat < b.toNat + c.toNat
          af := a.toNat % 16 < b.toNat % 16 + c.toNat
          ofl := a.msb != b.msb && r.msb != a.msb }.setSZP r)

/-- `logic_W(r)` (R14). -/
def logicW {w : Nat} (r : BitVec w) (u : Word) (f : Flags) : BitVec w × Flags :=
  (r, { f with cf := false, ofl := false, af := u.getLsbD 4 }.setSZP r)

/-- The operations of the standard two-operand forms (`41_arithmetic.md` R261), and TEST (`42_bit_manipulation.md` R325). -/
inductive AluOp where
  | add | or | adc | sbb | and | sub | xor | cmp | test
deriving DecidableEq, Repr

/-- Result and flags of `a op b` (R262, R263, R267, R268, R271; `42_bit_manipulation.md` R322 to R325). -/
def AluOp.apply {w : Nat} (op : AluOp) (a b : BitVec w) (u : Word) (f : Flags) : BitVec w × Flags :=
  match op with
  | .add => addW a b false f
  | .adc => addW a b f.cf f
  | .sub => subW a b false f
  | .sbb => subW a b f.cf f
  | .cmp => subW a b false f
  | .and => logicW (a &&& b) u f
  | .test => logicW (a &&& b) u f
  | .or => logicW (a ||| b) u f
  | .xor => logicW (a ^^^ b) u f

/-- CMP and TEST discard their result (R261). -/
def AluOp.writes : AluOp → Bool
  | .add => true | .or => true | .adc => true | .sbb => true | .and => true | .sub => true | .xor => true
  | .cmp => false | .test => false

/-- INC (`41_arithmetic.md` R264) or DEC (R269). -/
inductive StepOp where
  | inc | dec
deriving DecidableEq, Repr

/-- Result and flags of INC and DEC: those of `a + 1` and `a - 1`, CF kept (R264, R269). -/
def StepOp.apply {w : Nat} (op : StepOp) (a : BitVec w) (f : Flags) : BitVec w × Flags :=
  let out := match op with
    | .inc => addW a 1#w false f
    | .dec => subW a 1#w false f
  (out.1, { out.2 with cf := f.cf })

/-- The shifts and rotates (`42_bit_manipulation.md` R331 to R337). -/
inductive ShiftOp where
  | rol | ror | rcl | rcr | shl | shr | sar
deriving DecidableEq, Repr

/-- The one-bit number of a Boolean at width `w`. -/
def bitOf (w : Nat) (b : Bool) : BitVec w := BitVec.ofNat w b.toNat

/-- One step on the operand and CF (R331 to R337). -/
def ShiftOp.step {w : Nat} (op : ShiftOp) (x : BitVec w × Bool) : BitVec w × Bool :=
  match op with
  | .shl => (x.1 <<< 1, x.1.msb)
  | .shr => (x.1 >>> 1, x.1.getLsbD 0)
  | .sar => (x.1.sshiftRight 1, x.1.getLsbD 0)
  | .rol => (x.1 <<< 1 ||| bitOf w x.1.msb, x.1.msb)
  | .ror => (x.1 >>> 1 ||| bitOf w (x.1.getLsbD 0) <<< (w - 1), x.1.getLsbD 0)
  | .rcl => (x.1 <<< 1 ||| bitOf w x.2, x.1.msb)
  | .rcr => (x.1 >>> 1 ||| bitOf w x.2 <<< (w - 1), x.1.getLsbD 0)

/-- `c` steps in sequence (R330). -/
def ShiftOp.run {w : Nat} (op : ShiftOp) : Nat → BitVec w × Bool → BitVec w × Bool
  | 0, x => x
  | c + 1, x => ShiftOp.run op c (op.step x)

/-- OF after a count of 1: `a` the operand, `r` and `c` the result and CF (R331 to R337). -/
def ShiftOp.overflow {w : Nat} (op : ShiftOp) (a r : BitVec w) (c : Bool) : Bool :=
  match op with
  | .shl => r.msb ^^ c
  | .rol => r.msb ^^ c
  | .rcl => r.msb ^^ c
  | .shr => a.msb
  | .sar => false
  | .ror => r.msb ^^ r.getLsbD (w - 2)
  | .rcr => r.msb ^^ r.getLsbD (w - 2)

/-- A shift sets SF, ZF and PF and leaves AF undefined; a rotate does neither (R330). -/
def ShiftOp.isShift : ShiftOp → Bool
  | .shl => true | .shr => true | .sar => true
  | .rol => false | .ror => false | .rcl => false | .rcr => false

/-- Result and flags of a shift or rotate by an effective count `c` of at least 1 (R330). -/
def ShiftOp.apply {w : Nat} (op : ShiftOp) (a : BitVec w) (c : Nat) (u : Word) (f : Flags) : BitVec w × Flags :=
  let out := op.run c (a, f.cf)
  let g := { f with cf := out.2, ofl := if c = 1 then op.overflow a out.1 out.2 else u.getLsbD 11 }
  (out.1, if op.isShift then { g with af := u.getLsbD 4 }.setSZP out.1 else g)

/-- The effective count (R330, `92` D15, log 13). -/
def effectiveCount (raw : Byte) : Nat := raw.toNat % 32

/-- MUL and IMUL: CF and OF as given; SF, ZF, AF, PF undefined (`41_arithmetic.md` R274 to R276). -/
def Flags.afterMul (f : Flags) (c : Bool) (u : Word) : Flags :=
  { f with cf := c, ofl := c, sf := u.getLsbD 7, zf := u.getLsbD 6, af := u.getLsbD 4, pf := u.getLsbD 2 }

/-- DIV and IDIV: all six status flags undefined (R278, R279). -/
def Flags.afterDiv (f : Flags) (u : Word) : Flags :=
  { f with cf := u.getLsbD 0, pf := u.getLsbD 2, af := u.getLsbD 4, zf := u.getLsbD 6, sf := u.getLsbD 7,
           ofl := u.getLsbD 11 }

/-- AL and flags after DAA (R266) or, with `sub`, DAS (R273). -/
def decimalAdjust (sub : Bool) (al : Byte) (u : Word) (f : Flags) : Byte × Flags :=
  let low := decide (9 < al.toNat % 16) || f.af
  let high := decide (0x99 < al.toNat) || f.cf
  let by6 : Byte := if low then 6 else 0
  let by60 : Byte := if high then 0x60 else 0
  let r := if sub then al - by6 - by60 else al + by6 + by60
  (r, { f with af := low, cf := high, ofl := u.getLsbD 11 }.setSZP r)

/-- AL, AH and flags after AAA (R265) or, with `sub`, AAS (R272). -/
def asciiAdjust (sub : Bool) (al ah : Byte) (u : Word) (f : Flags) : Byte × Byte × Flags :=
  let adj := decide (9 < al.toNat % 16) || f.af
  let al' := if adj then (if sub then al - 6 else al + 6) else al
  let ah' := if adj then (if sub then ah - 1 else ah + 1) else ah
  (al' &&& 0x0F, ah', { f with af := adj, cf := adj, ofl := u.getLsbD 11, sf := u.getLsbD 7, zf := u.getLsbD 6,
                               pf := u.getLsbD 2 })

/-- Flags after AAM (R277) and AAD (R280): SF, ZF, PF from AL; OF, AF, CF undefined. -/
def Flags.afterAsciiMulDiv (f : Flags) (al : Byte) (u : Word) : Flags :=
  { f with ofl := u.getLsbD 11, af := u.getLsbD 4, cf := u.getLsbD 0 }.setSZP al

/-- The conditions of Table 2-10 (`44_program_transfer.md` R405), by the letters after the J. -/
inductive Cond where
  | o | no | b | ae | e | ne | be | a | s | ns | p | np | l | ge | le | g
deriving DecidableEq, Repr

/-- The condition tested (R405). -/
def Cond.holds (c : Cond) (f : Flags) : Bool :=
  match c with
  | .o => f.ofl
  | .no => !f.ofl
  | .b => f.cf
  | .ae => !f.cf
  | .e => f.zf
  | .ne => !f.zf
  | .be => f.cf || f.zf
  | .a => !(f.cf || f.zf)
  | .s => f.sf
  | .ns => !f.sf
  | .p => f.pf
  | .np => !f.pf
  | .l => f.sf ^^ f.ofl
  | .ge => !(f.sf ^^ f.ofl)
  | .le => (f.sf ^^ f.ofl) || f.zf
  | .g => !((f.sf ^^ f.ofl) || f.zf)

end Sys2Proof.Machine
end

