-- ==== Sys2Proof/Machine/Operands.lean ====
section
/-! DEFINITION. Operands (`30_encoding.md` R130 to R133, `40_data_transfer.md` R200), and the shapes of instruction that more than
one family uses. -/

namespace Sys2Proof.Machine

open Sys2Proof

/-- The sum of base and index registers (R130). -/
def baseSum (b : EaBase) (s : State) : Word :=
  match b with
  | .bxSi => s.regs.bx + s.regs.si
  | .bxDi => s.regs.bx + s.regs.di
  | .bpSi => s.regs.bp + s.regs.si
  | .bpDi => s.regs.bp + s.regs.di
  | .si => s.regs.si
  | .di => s.regs.di
  | .bp => s.regs.bp
  | .bx => s.regs.bx

/-- The effective address (R130), modulo 2^16. -/
def ea (m : Mem) (s : State) : Word :=
  match m with
  | .direct a => a
  | .plain b => baseSum b s
  | .disp8 b d => baseSum b s + signExt d
  | .disp16 b d => baseSum b s + d

/-- SS exactly when BP is a component, else DS (R130). -/
def baseSeg : EaBase → SReg
  | .bxSi => .ds | .bxDi => .ds | .bpSi => .ss | .bpDi => .ss | .si => .ds | .di => .ds | .bp => .ss | .bx => .ds

/-- The default segment of a memory operand (R130). -/
def defaultSeg : Mem → SReg
  | .direct _ => .ds
  | .plain b => baseSeg b
  | .disp8 b _ => baseSeg b
  | .disp16 b _ => baseSeg b

/-- The segment value of a reference whose default may be overridden (`20_memory.md` R76). -/
def overridableSeg (dflt : SReg) (s : State) : Word := s.sreg (s.pfx.seg.getD dflt)

/-- The segment value of a memory operand. -/
def memSeg (m : Mem) (s : State) : Word := overridableSeg (defaultSeg m) s

/-- `getE()` of a byte operand. -/
def getRm8 (rm : Rm8) (s : State) : Byte × State :=
  match rm with
  | .reg r => (s.reg8 r, s)
  | .mem m => readByte (memSeg m s) (ea m s) s

/-- `getE()` of a word operand. -/
def getRm16 (rm : Rm16) (s : State) : Except Stop (Word × State) :=
  match rm with
  | .reg r => .ok (s.reg16 r, s)
  | .mem m => readWord (memSeg m s) (ea m s) s

/-- `setE(v)` of a byte operand. -/
def setRm8 (rm : Rm8) (v : Byte) (s : State) : State :=
  match rm with
  | .reg r => s.setReg8 r v
  | .mem m => writeByte (memSeg m s) (ea m s) v s

/-- `setE(v)` of a word operand. -/
def setRm16 (rm : Rm16) (v : Word) (s : State) : Except Stop State :=
  match rm with
  | .reg r => .ok (s.setReg16 r v)
  | .mem m => writeWord (memSeg m s) (ea m s) v s

/-- A two-operand form on bytes, `a` the destination's value and `b` the source's (`41_arithmetic.md` R261). -/
def binop8With (op : AluOp) (dst : Rm8) (b : Byte) (s : State) : State :=
  let a := getRm8 dst s
  let out := op.apply a.1 b s.free s.flags
  let t := (a.2.setFlags out.2).nextFree
  if op.writes then setRm8 dst out.1 t else t

/-- A two-operand form on words (R261). -/
def binop16With (op : AluOp) (dst : Rm16) (b : Word) (s : State) : Except Stop State := do
  let (a, s) ← getRm16 dst s
  let out := op.apply a b s.free s.flags
  let t := (s.setFlags out.2).nextFree
  if op.writes then setRm16 dst out.1 t else .ok t

/-- R261, byte operands. -/
def binop8 (op : AluOp) (dst src : Rm8) (s : State) : Except Stop State :=
  let b := getRm8 src s
  .ok (binop8With op dst b.1 b.2)

/-- R261, word operands. -/
def binop16 (op : AluOp) (dst src : Rm16) (s : State) : Except Stop State := do
  let (b, s) ← getRm16 src s
  binop16With op dst b s

/-- R261, a byte and an immediate. -/
def binop8Imm (op : AluOp) (dst : Rm8) (i : Byte) (s : State) : Except Stop State := .ok (binop8With op dst i s)

/-- R261, a word and an immediate. -/
def binop16Imm (op : AluOp) (dst : Rm16) (v : Word) (s : State) : Except Stop State := binop16With op dst v s

end Sys2Proof.Machine
end

