-- ==== Sys2Proof/Machine/Arithmetic.lean ====
section
/-! DEFINITION. Arithmetic instructions (`41_arithmetic.md`). -/

namespace Sys2Proof.Machine

open Sys2Proof

/-- INC and DEC of a byte (R264, R269). -/
def incDec8 (op : StepOp) (rm : Rm8) (s : State) : Except Stop State :=
  let a := getRm8 rm s
  let out := op.apply a.1 s.flags
  .ok (setRm8 rm out.1 (a.2.setFlags out.2))

/-- INC and DEC of a word (R264, R269). -/
def incDec16 (op : StepOp) (rm : Rm16) (s : State) : Except Stop State := do
  let (a, s) ← getRm16 rm s
  let out := op.apply a s.flags
  setRm16 rm out.1 (s.setFlags out.2)

/-- NEG of a byte (R270). -/
def neg8 (rm : Rm8) (s : State) : Except Stop State :=
  let a := getRm8 rm s
  let out := subW 0#8 a.1 false s.flags
  .ok (setRm8 rm out.1 (a.2.setFlags out.2))

/-- NEG of a word (R270). -/
def neg16 (rm : Rm16) (s : State) : Except Stop State := do
  let (a, s) ← getRm16 rm s
  let out := subW 0#16 a false s.flags
  setRm16 rm out.1 (s.setFlags out.2)

/-- DAA (R266). -/
def daaOp (s : State) : Except Stop State :=
  let out := decimalAdjust false (s.reg8 .al) s.free s.flags
  .ok ((s.setReg8 .al out.1).setFlags out.2).nextFree

/-- DAS (R273). -/
def dasOp (s : State) : Except Stop State :=
  let out := decimalAdjust true (s.reg8 .al) s.free s.flags
  .ok ((s.setReg8 .al out.1).setFlags out.2).nextFree

/-- AAA (R265). -/
def aaaOp (s : State) : Except Stop State :=
  let out := asciiAdjust false (s.reg8 .al) (s.reg8 .ah) s.free s.flags
  .ok (((s.setReg8 .al out.1).setReg8 .ah out.2.1).setFlags out.2.2).nextFree

/-- AAS (R272). -/
def aasOp (s : State) : Except Stop State :=
  let out := asciiAdjust true (s.reg8 .al) (s.reg8 .ah) s.free s.flags
  .ok (((s.setReg8 .al out.1).setReg8 .ah out.2.1).setFlags out.2.2).nextFree

/-- MUL of bytes (R274). -/
def mul8 (rm : Rm8) (s : State) : Except Stop State :=
  let v := getRm8 rm s
  let p := (s.reg8 .al).toNat * v.1.toNat
  .ok ((v.2.setReg16 .ax (BitVec.ofNat 16 p)).setFlags (s.flags.afterMul (decide (2 ^ 8 ≤ p)) s.free)).nextFree

/-- MUL of words (R274). -/
def mul16 (rm : Rm16) (s : State) : Except Stop State := do
  let (v, s) ← getRm16 rm s
  let p := s.regs.ax.toNat * v.toNat
  .ok (((s.setReg16 .ax (BitVec.ofNat 16 p)).setReg16 .dx (BitVec.ofNat 16 (p / 2 ^ 16))).setFlags
    (s.flags.afterMul (decide (2 ^ 16 ≤ p)) s.free)).nextFree

/-- IMUL of bytes (R275). -/
def imul8 (rm : Rm8) (s : State) : Except Stop State :=
  let v := getRm8 rm s
  let p := (s.reg8 .al).toInt * v.1.toInt
  .ok ((v.2.setReg16 .ax (BitVec.ofInt 16 p)).setFlags
    (s.flags.afterMul (p != (BitVec.ofInt 8 p).toInt) s.free)).nextFree

/-- IMUL of words (R275). -/
def imul16 (rm : Rm16) (s : State) : Except Stop State := do
  let (v, s) ← getRm16 rm s
  let p := s.regs.ax.toInt * v.toInt
  .ok (((s.setReg16 .ax (BitVec.ofInt 16 p)).setReg16 .dx (BitVec.ofInt 16 (p / 2 ^ 16))).setFlags
    (s.flags.afterMul (p != (BitVec.ofInt 16 p).toInt) s.free)).nextFree

/-- IMUL r16, r/m16, imm (R276). -/
def imulImm (r : Reg16) (rm : Rm16) (v : Word) (s : State) : Except Stop State := do
  let (a, s) ← getRm16 rm s
  let p := a.toInt * v.toInt
  .ok ((s.setReg16 r (BitVec.ofInt 16 p)).setFlags
    (s.flags.afterMul (p != (BitVec.ofInt 16 p).toInt) s.free)).nextFree

/-- The divide error, type 0 (`60_exceptions.md` R524): AX and DX are kept; the saved address is log 11's. -/
def divideError (s : State) : Except Stop State :=
  enter 0 (s.setIp (if diverrSavesNextIp then s.ip else s.startIp))

/-- The state with the flags of DIV and IDIV, whether or not the error is raised (R278, log 37). -/
def State.divFlags (s : State) : State := (s.setFlags (s.flags.afterDiv s.free)).nextFree

/-- DIV by a byte (R278). -/
def div8 (rm : Rm8) (s : State) : Except Stop State :=
  let n := s.regs.ax.toNat
  let v := getRm8 rm s
  let d := v.1.toNat
  if d = 0 ∨ 0xFF < n / d then divideError v.2.divFlags
  else .ok ((v.2.divFlags.setReg8 .al (BitVec.ofNat 8 (n / d))).setReg8 .ah (BitVec.ofNat 8 (n % d)))

/-- DIV by a word (R278). -/
def div16 (rm : Rm16) (s : State) : Except Stop State := do
  let (v, s) ← getRm16 rm s
  let n := s.regs.dx.toNat * 2 ^ 16 + s.regs.ax.toNat
  let d := v.toNat
  if d = 0 ∨ 0xFFFF < n / d then divideError s.divFlags
  else .ok ((s.divFlags.setReg16 .ax (BitVec.ofNat 16 (n / d))).setReg16 .dx (BitVec.ofNat 16 (n % d)))

/-- A signed quotient fits its destination of `w` bits (R279); -2^(w-1) itself is log 12's. -/
def quotientFits (w : Nat) (q : Int) : Bool :=
  decide (q < 2 ^ (w - 1)) && (decide (-(2 ^ (w - 1)) < q) || (decide (q = -(2 ^ (w - 1))) && idivMinQuotientOk))

/-- IDIV by a byte (R279). -/
def idiv8 (rm : Rm8) (s : State) : Except Stop State :=
  let n := s.regs.ax.toInt
  let v := getRm8 rm s
  let d := v.1.toInt
  if d = 0 ∨ quotientFits 8 (n.tdiv d) = false then divideError v.2.divFlags
  else .ok ((v.2.divFlags.setReg8 .al (BitVec.ofInt 8 (n.tdiv d))).setReg8 .ah (BitVec.ofInt 8 (n.tmod d)))

/-- IDIV by a word (R279). -/
def idiv16 (rm : Rm16) (s : State) : Except Stop State := do
  let (v, s) ← getRm16 rm s
  let n := (s.regs.dx ++ s.regs.ax : BitVec 32).toInt
  let d := v.toInt
  if d = 0 ∨ quotientFits 16 (n.tdiv d) = false then divideError s.divFlags
  else .ok ((s.divFlags.setReg16 .ax (BitVec.ofInt 16 (n.tdiv d))).setReg16 .dx (BitVec.ofInt 16 (n.tmod d)))

/-- AAM (R277). -/
def aamOp (s : State) : Except Stop State :=
  let al := (s.reg8 .al).toNat
  .ok (((s.setReg8 .ah (BitVec.ofNat 8 (al / 10))).setReg8 .al (BitVec.ofNat 8 (al % 10))).setFlags
    (s.flags.afterAsciiMulDiv (BitVec.ofNat 8 (al % 10)) s.free)).nextFree

/-- AAD (R280). -/
def aadOp (s : State) : Except Stop State :=
  let al := BitVec.ofNat 8 ((s.reg8 .ah).toNat * 10 + (s.reg8 .al).toNat)
  .ok (((s.setReg8 .al al).setReg8 .ah 0).setFlags (s.flags.afterAsciiMulDiv al s.free)).nextFree

/-- CBW (R281). -/
def cbwOp (s : State) : Except Stop State := .ok (s.setReg16 .ax (signExt (s.reg8 .al)))

/-- CWD (R282). -/
def cwdOp (s : State) : Except Stop State := .ok (s.setReg16 .dx (if s.regs.ax.msb then 0xFFFF#16 else 0#16))

/-- ADD r/m8, r8 (`00`): `41` R262. -/
def execAddRm8R8 (rm : Rm8) (r : Reg8) (s : State) : Result :=
  outcome (binop8 .add rm (.reg r) s)

/-- ADD r/m16, r16 (`01`): `41` R262. -/
def execAddRm16R16 (rm : Rm16) (r : Reg16) (s : State) : Result :=
  outcome (binop16 .add rm (.reg r) s)

/-- ADD r8, r/m8 (`02`): `41` R262. -/
def execAddR8Rm8 (r : Reg8) (rm : Rm8) (s : State) : Result :=
  outcome (binop8 .add (.reg r) rm s)

/-- ADD r16, r/m16 (`03`): `41` R262. -/
def execAddR16Rm16 (r : Reg16) (rm : Rm16) (s : State) : Result :=
  outcome (binop16 .add (.reg r) rm s)

/-- ADD AL, imm8 (`04`): `41` R262. -/
def execAddAlImm8 (i : Byte) (s : State) : Result :=
  outcome (binop8Imm .add (.reg .al) i s)

/-- ADD AX, imm16 (`05`): `41` R262. -/
def execAddAxImm16 (v : Word) (s : State) : Result :=
  outcome (binop16Imm .add (.reg .ax) v s)

/-- ADC r/m8, r8 (`10`): `41` R263. -/
def execAdcRm8R8 (rm : Rm8) (r : Reg8) (s : State) : Result :=
  outcome (binop8 .adc rm (.reg r) s)

/-- ADC r/m16, r16 (`11`): `41` R263. -/
def execAdcRm16R16 (rm : Rm16) (r : Reg16) (s : State) : Result :=
  outcome (binop16 .adc rm (.reg r) s)

/-- ADC r8, r/m8 (`12`): `41` R263. -/
def execAdcR8Rm8 (r : Reg8) (rm : Rm8) (s : State) : Result :=
  outcome (binop8 .adc (.reg r) rm s)

/-- ADC r16, r/m16 (`13`): `41` R263. -/
def execAdcR16Rm16 (r : Reg16) (rm : Rm16) (s : State) : Result :=
  outcome (binop16 .adc (.reg r) rm s)

/-- ADC AL, imm8 (`14`): `41` R263. -/
def execAdcAlImm8 (i : Byte) (s : State) : Result :=
  outcome (binop8Imm .adc (.reg .al) i s)

/-- ADC AX, imm16 (`15`): `41` R263. -/
def execAdcAxImm16 (v : Word) (s : State) : Result :=
  outcome (binop16Imm .adc (.reg .ax) v s)

/-- SBB r/m8, r8 (`18`): `41` R268. -/
def execSbbRm8R8 (rm : Rm8) (r : Reg8) (s : State) : Result :=
  outcome (binop8 .sbb rm (.reg r) s)

/-- SBB r/m16, r16 (`19`): `41` R268. -/
def execSbbRm16R16 (rm : Rm16) (r : Reg16) (s : State) : Result :=
  outcome (binop16 .sbb rm (.reg r) s)

/-- SBB r8, r/m8 (`1A`): `41` R268. -/
def execSbbR8Rm8 (r : Reg8) (rm : Rm8) (s : State) : Result :=
  outcome (binop8 .sbb (.reg r) rm s)

/-- SBB r16, r/m16 (`1B`): `41` R268. -/
def execSbbR16Rm16 (r : Reg16) (rm : Rm16) (s : State) : Result :=
  outcome (binop16 .sbb (.reg r) rm s)

/-- SBB AL, imm8 (`1C`): `41` R268. -/
def execSbbAlImm8 (i : Byte) (s : State) : Result :=
  outcome (binop8Imm .sbb (.reg .al) i s)

/-- SBB AX, imm16 (`1D`): `41` R268. -/
def execSbbAxImm16 (v : Word) (s : State) : Result :=
  outcome (binop16Imm .sbb (.reg .ax) v s)

/-- SUB r/m8, r8 (`28`): `41` R267. -/
def execSubRm8R8 (rm : Rm8) (r : Reg8) (s : State) : Result :=
  outcome (binop8 .sub rm (.reg r) s)

/-- SUB r/m16, r16 (`29`): `41` R267. -/
def execSubRm16R16 (rm : Rm16) (r : Reg16) (s : State) : Result :=
  outcome (binop16 .sub rm (.reg r) s)

/-- SUB r8, r/m8 (`2A`): `41` R267. -/
def execSubR8Rm8 (r : Reg8) (rm : Rm8) (s : State) : Result :=
  outcome (binop8 .sub (.reg r) rm s)

/-- SUB r16, r/m16 (`2B`): `41` R267. -/
def execSubR16Rm16 (r : Reg16) (rm : Rm16) (s : State) : Result :=
  outcome (binop16 .sub (.reg r) rm s)

/-- SUB AL, imm8 (`2C`): `41` R267. -/
def execSubAlImm8 (i : Byte) (s : State) : Result :=
  outcome (binop8Imm .sub (.reg .al) i s)

/-- SUB AX, imm16 (`2D`): `41` R267. -/
def execSubAxImm16 (v : Word) (s : State) : Result :=
  outcome (binop16Imm .sub (.reg .ax) v s)

/-- CMP r/m8, r8 (`38`): `41` R271. -/
def execCmpRm8R8 (rm : Rm8) (r : Reg8) (s : State) : Result :=
  outcome (binop8 .cmp rm (.reg r) s)

/-- CMP r/m16, r16 (`39`): `41` R271. -/
def execCmpRm16R16 (rm : Rm16) (r : Reg16) (s : State) : Result :=
  outcome (binop16 .cmp rm (.reg r) s)

/-- CMP r8, r/m8 (`3A`): `41` R271. -/
def execCmpR8Rm8 (r : Reg8) (rm : Rm8) (s : State) : Result :=
  outcome (binop8 .cmp (.reg r) rm s)

/-- CMP r16, r/m16 (`3B`): `41` R271. -/
def execCmpR16Rm16 (r : Reg16) (rm : Rm16) (s : State) : Result :=
  outcome (binop16 .cmp (.reg r) rm s)

/-- CMP AL, imm8 (`3C`): `41` R271. -/
def execCmpAlImm8 (i : Byte) (s : State) : Result :=
  outcome (binop8Imm .cmp (.reg .al) i s)

/-- CMP AX, imm16 (`3D`): `41` R271. -/
def execCmpAxImm16 (v : Word) (s : State) : Result :=
  outcome (binop16Imm .cmp (.reg .ax) v s)

/-- ADD r/m8, imm8 (`80 /0`): `41` R262. -/
def execAddRm8Imm8 (rm : Rm8) (i : Byte) (s : State) : Result :=
  outcome (binop8Imm .add rm i s)

/-- ADD r/m16, imm16 (`81 /0`): `41` R262. -/
def execAddRm16Imm16 (rm : Rm16) (v : Word) (s : State) : Result :=
  outcome (binop16Imm .add rm v s)

/-- ADD r/m16, imm8 (sign-extended) (`83 /0`): `41` R262. -/
def execAddRm16Imm8 (rm : Rm16) (i : Byte) (s : State) : Result :=
  outcome (binop16Imm .add rm (signExt i) s)

/-- ADC r/m8, imm8 (`80 /2`): `41` R263. -/
def execAdcRm8Imm8 (rm : Rm8) (i : Byte) (s : State) : Result :=
  outcome (binop8Imm .adc rm i s)

/-- ADC r/m16, imm16 (`81 /2`): `41` R263. -/
def execAdcRm16Imm16 (rm : Rm16) (v : Word) (s : State) : Result :=
  outcome (binop16Imm .adc rm v s)

/-- ADC r/m16, imm8 (sign-extended) (`83 /2`): `41` R263. -/
def execAdcRm16Imm8 (rm : Rm16) (i : Byte) (s : State) : Result :=
  outcome (binop16Imm .adc rm (signExt i) s)

/-- SBB r/m8, imm8 (`80 /3`): `41` R268. -/
def execSbbRm8Imm8 (rm : Rm8) (i : Byte) (s : State) : Result :=
  outcome (binop8Imm .sbb rm i s)

/-- SBB r/m16, imm16 (`81 /3`): `41` R268. -/
def execSbbRm16Imm16 (rm : Rm16) (v : Word) (s : State) : Result :=
  outcome (binop16Imm .sbb rm v s)

/-- SBB r/m16, imm8 (sign-extended) (`83 /3`): `41` R268. -/
def execSbbRm16Imm8 (rm : Rm16) (i : Byte) (s : State) : Result :=
  outcome (binop16Imm .sbb rm (signExt i) s)

/-- SUB r/m8, imm8 (`80 /5`): `41` R267. -/
def execSubRm8Imm8 (rm : Rm8) (i : Byte) (s : State) : Result :=
  outcome (binop8Imm .sub rm i s)

/-- SUB r/m16, imm16 (`81 /5`): `41` R267. -/
def execSubRm16Imm16 (rm : Rm16) (v : Word) (s : State) : Result :=
  outcome (binop16Imm .sub rm v s)

/-- SUB r/m16, imm8 (sign-extended) (`83 /5`): `41` R267. -/
def execSubRm16Imm8 (rm : Rm16) (i : Byte) (s : State) : Result :=
  outcome (binop16Imm .sub rm (signExt i) s)

/-- CMP r/m8, imm8 (`80 /7`): `41` R271. -/
def execCmpRm8Imm8 (rm : Rm8) (i : Byte) (s : State) : Result :=
  outcome (binop8Imm .cmp rm i s)

/-- CMP r/m16, imm16 (`81 /7`): `41` R271. -/
def execCmpRm16Imm16 (rm : Rm16) (v : Word) (s : State) : Result :=
  outcome (binop16Imm .cmp rm v s)

/-- CMP r/m16, imm8 (sign-extended) (`83 /7`): `41` R271. -/
def execCmpRm16Imm8 (rm : Rm16) (i : Byte) (s : State) : Result :=
  outcome (binop16Imm .cmp rm (signExt i) s)

/-- INC r16 (`40+r`): `41` R264. -/
def execIncR16 (r : Reg16) (s : State) : Result :=
  outcome (incDec16 .inc (.reg r) s)

/-- DEC r16 (`48+r`): `41` R269. -/
def execDecR16 (r : Reg16) (s : State) : Result :=
  outcome (incDec16 .dec (.reg r) s)

/-- IMUL r16, r/m16, imm16 (`69`): `41` R276. -/
def execImulR16Rm16Imm16 (r : Reg16) (rm : Rm16) (v : Word) (s : State) : Result :=
  outcome (imulImm r rm v s)

/-- IMUL r16, r/m16, imm8 (sign-extended) (`6B`): `41` R276. -/
def execImulR16Rm16Imm8 (r : Reg16) (rm : Rm16) (i : Byte) (s : State) : Result :=
  outcome (imulImm r rm (signExt i) s)

/-- NEG r/m8 (`F6 /3`): `41` R270. -/
def execNegRm8 (rm : Rm8) (s : State) : Result :=
  outcome (neg8 rm s)

/-- NEG r/m16 (`F7 /3`): `41` R270. -/
def execNegRm16 (rm : Rm16) (s : State) : Result :=
  outcome (neg16 rm s)

/-- MUL r/m8 (`F6 /4`): `41` R274. -/
def execMulRm8 (rm : Rm8) (s : State) : Result :=
  outcome (mul8 rm s)

/-- MUL r/m16 (`F7 /4`): `41` R274. -/
def execMulRm16 (rm : Rm16) (s : State) : Result :=
  outcome (mul16 rm s)

/-- IMUL r/m8 (`F6 /5`): `41` R275. -/
def execImulRm8 (rm : Rm8) (s : State) : Result :=
  outcome (imul8 rm s)

/-- IMUL r/m16 (`F7 /5`): `41` R275. -/
def execImulRm16 (rm : Rm16) (s : State) : Result :=
  outcome (imul16 rm s)

/-- DIV r/m8 (`F6 /6`): `41` R278. -/
def execDivRm8 (rm : Rm8) (s : State) : Result :=
  outcome (div8 rm s)

/-- DIV r/m16 (`F7 /6`): `41` R278. -/
def execDivRm16 (rm : Rm16) (s : State) : Result :=
  outcome (div16 rm s)

/-- IDIV r/m8 (`F6 /7`): `41` R279. -/
def execIdivRm8 (rm : Rm8) (s : State) : Result :=
  outcome (idiv8 rm s)

/-- IDIV r/m16 (`F7 /7`): `41` R279. -/
def execIdivRm16 (rm : Rm16) (s : State) : Result :=
  outcome (idiv16 rm s)

/-- INC r/m8 (`FE /0`): `41` R264. -/
def execIncRm8 (rm : Rm8) (s : State) : Result :=
  outcome (incDec8 .inc rm s)

/-- DEC r/m8 (`FE /1`): `41` R269. -/
def execDecRm8 (rm : Rm8) (s : State) : Result :=
  outcome (incDec8 .dec rm s)

/-- INC r/m16 (`FF /0`): `41` R264. -/
def execIncRm16 (rm : Rm16) (s : State) : Result :=
  outcome (incDec16 .inc rm s)

/-- DEC r/m16 (`FF /1`): `41` R269. -/
def execDecRm16 (rm : Rm16) (s : State) : Result :=
  outcome (incDec16 .dec rm s)

/-- DAA (`27`): `41` R266. -/
def execDaa (s : State) : Result :=
  outcome (daaOp s)

/-- DAS (`2F`): `41` R273. -/
def execDas (s : State) : Result :=
  outcome (dasOp s)

/-- AAA (`37`): `41` R265. -/
def execAaa (s : State) : Result :=
  outcome (aaaOp s)

/-- AAS (`3F`): `41` R272. -/
def execAas (s : State) : Result :=
  outcome (aasOp s)

/-- CBW (`98`): `41` R281. -/
def execCbw (s : State) : Result :=
  outcome (cbwOp s)

/-- CWD (`99`): `41` R282. -/
def execCwd (s : State) : Result :=
  outcome (cwdOp s)

/-- AAM (`D4 0A`): `41` R277. -/
def execAam (s : State) : Result :=
  outcome (aamOp s)

/-- AAD (`D5 0A`): `41` R280. -/
def execAad (s : State) : Result :=
  outcome (aadOp s)

end Sys2Proof.Machine
end

