-- ==== Sys2Proof/Machine/BitManipulation.lean ====
section
/-! DEFINITION. Bit manipulation instructions (`42_bit_manipulation.md`). -/

namespace Sys2Proof.Machine

open Sys2Proof

/-- NOT of a byte (R321). -/
def not8 (rm : Rm8) (s : State) : Except Stop State :=
  let a := getRm8 rm s
  .ok (setRm8 rm (~~~a.1) a.2)

/-- NOT of a word (R321). -/
def not16 (rm : Rm16) (s : State) : Except Stop State := do
  let (a, s) ← getRm16 rm s
  setRm16 rm (~~~a) s

/-- A shift or rotate of a byte by a raw count (R330); a count of 0 changes nothing. -/
def shift8 (op : ShiftOp) (rm : Rm8) (count : Byte) (s : State) : Except Stop State :=
  if effectiveCount count = 0 then .ok s
  else
    let a := getRm8 rm s
    let out := op.apply a.1 (effectiveCount count) s.free s.flags
    .ok (setRm8 rm out.1 (a.2.setFlags out.2)).nextFree

/-- A shift or rotate of a word by a raw count (R330); a count of 0 changes nothing (log 13). -/
def shift16 (op : ShiftOp) (rm : Rm16) (count : Byte) (s : State) : Except Stop State :=
  if effectiveCount count = 0 then .ok s
  else do
    let (a, s) ← getRm16 rm s
    let out := op.apply a (effectiveCount count) s.free s.flags
    let t ← setRm16 rm out.1 (s.setFlags out.2)
    .ok t.nextFree

/-- OR r/m8, r8 (`08`): `42` R323. -/
def execOrRm8R8 (rm : Rm8) (r : Reg8) (s : State) : Result :=
  outcome (binop8 .or rm (.reg r) s)

/-- OR r/m16, r16 (`09`): `42` R323. -/
def execOrRm16R16 (rm : Rm16) (r : Reg16) (s : State) : Result :=
  outcome (binop16 .or rm (.reg r) s)

/-- OR r8, r/m8 (`0A`): `42` R323. -/
def execOrR8Rm8 (r : Reg8) (rm : Rm8) (s : State) : Result :=
  outcome (binop8 .or (.reg r) rm s)

/-- OR r16, r/m16 (`0B`): `42` R323. -/
def execOrR16Rm16 (r : Reg16) (rm : Rm16) (s : State) : Result :=
  outcome (binop16 .or (.reg r) rm s)

/-- OR AL, imm8 (`0C`): `42` R323. -/
def execOrAlImm8 (i : Byte) (s : State) : Result :=
  outcome (binop8Imm .or (.reg .al) i s)

/-- OR AX, imm16 (`0D`): `42` R323. -/
def execOrAxImm16 (v : Word) (s : State) : Result :=
  outcome (binop16Imm .or (.reg .ax) v s)

/-- AND r/m8, r8 (`20`): `42` R322. -/
def execAndRm8R8 (rm : Rm8) (r : Reg8) (s : State) : Result :=
  outcome (binop8 .and rm (.reg r) s)

/-- AND r/m16, r16 (`21`): `42` R322. -/
def execAndRm16R16 (rm : Rm16) (r : Reg16) (s : State) : Result :=
  outcome (binop16 .and rm (.reg r) s)

/-- AND r8, r/m8 (`22`): `42` R322. -/
def execAndR8Rm8 (r : Reg8) (rm : Rm8) (s : State) : Result :=
  outcome (binop8 .and (.reg r) rm s)

/-- AND r16, r/m16 (`23`): `42` R322. -/
def execAndR16Rm16 (r : Reg16) (rm : Rm16) (s : State) : Result :=
  outcome (binop16 .and (.reg r) rm s)

/-- AND AL, imm8 (`24`): `42` R322. -/
def execAndAlImm8 (i : Byte) (s : State) : Result :=
  outcome (binop8Imm .and (.reg .al) i s)

/-- AND AX, imm16 (`25`): `42` R322. -/
def execAndAxImm16 (v : Word) (s : State) : Result :=
  outcome (binop16Imm .and (.reg .ax) v s)

/-- XOR r/m8, r8 (`30`): `42` R324. -/
def execXorRm8R8 (rm : Rm8) (r : Reg8) (s : State) : Result :=
  outcome (binop8 .xor rm (.reg r) s)

/-- XOR r/m16, r16 (`31`): `42` R324. -/
def execXorRm16R16 (rm : Rm16) (r : Reg16) (s : State) : Result :=
  outcome (binop16 .xor rm (.reg r) s)

/-- XOR r8, r/m8 (`32`): `42` R324. -/
def execXorR8Rm8 (r : Reg8) (rm : Rm8) (s : State) : Result :=
  outcome (binop8 .xor (.reg r) rm s)

/-- XOR r16, r/m16 (`33`): `42` R324. -/
def execXorR16Rm16 (r : Reg16) (rm : Rm16) (s : State) : Result :=
  outcome (binop16 .xor (.reg r) rm s)

/-- XOR AL, imm8 (`34`): `42` R324. -/
def execXorAlImm8 (i : Byte) (s : State) : Result :=
  outcome (binop8Imm .xor (.reg .al) i s)

/-- XOR AX, imm16 (`35`): `42` R324. -/
def execXorAxImm16 (v : Word) (s : State) : Result :=
  outcome (binop16Imm .xor (.reg .ax) v s)

/-- OR r/m8, imm8 (`80 /1`): `42` R323. -/
def execOrRm8Imm8 (rm : Rm8) (i : Byte) (s : State) : Result :=
  outcome (binop8Imm .or rm i s)

/-- OR r/m16, imm16 (`81 /1`): `42` R323. -/
def execOrRm16Imm16 (rm : Rm16) (v : Word) (s : State) : Result :=
  outcome (binop16Imm .or rm v s)

/-- AND r/m8, imm8 (`80 /4`): `42` R322. -/
def execAndRm8Imm8 (rm : Rm8) (i : Byte) (s : State) : Result :=
  outcome (binop8Imm .and rm i s)

/-- AND r/m16, imm16 (`81 /4`): `42` R322. -/
def execAndRm16Imm16 (rm : Rm16) (v : Word) (s : State) : Result :=
  outcome (binop16Imm .and rm v s)

/-- XOR r/m8, imm8 (`80 /6`): `42` R324. -/
def execXorRm8Imm8 (rm : Rm8) (i : Byte) (s : State) : Result :=
  outcome (binop8Imm .xor rm i s)

/-- XOR r/m16, imm16 (`81 /6`): `42` R324. -/
def execXorRm16Imm16 (rm : Rm16) (v : Word) (s : State) : Result :=
  outcome (binop16Imm .xor rm v s)

/-- TEST r/m8, r8 (`84`): `42` R325. -/
def execTestRm8R8 (rm : Rm8) (r : Reg8) (s : State) : Result :=
  outcome (binop8 .test rm (.reg r) s)

/-- TEST r/m16, r16 (`85`): `42` R325. -/
def execTestRm16R16 (rm : Rm16) (r : Reg16) (s : State) : Result :=
  outcome (binop16 .test rm (.reg r) s)

/-- TEST AL, imm8 (`A8`): `42` R325. -/
def execTestAlImm8 (i : Byte) (s : State) : Result :=
  outcome (binop8Imm .test (.reg .al) i s)

/-- TEST AX, imm16 (`A9`): `42` R325. -/
def execTestAxImm16 (v : Word) (s : State) : Result :=
  outcome (binop16Imm .test (.reg .ax) v s)

/-- ROL r/m8, imm8 (`C0 /0`): `42` R334. -/
def execRolRm8Imm8 (rm : Rm8) (i : Byte) (s : State) : Result :=
  outcome (shift8 .rol rm i s)

/-- ROL r/m16, imm8 (`C1 /0`): `42` R334. -/
def execRolRm16Imm8 (rm : Rm16) (i : Byte) (s : State) : Result :=
  outcome (shift16 .rol rm i s)

/-- ROL r/m8, 1 (`D0 /0`): `42` R334. -/
def execRolRm8One (rm : Rm8) (s : State) : Result :=
  outcome (shift8 .rol rm 1 s)

/-- ROL r/m16, 1 (`D1 /0`): `42` R334. -/
def execRolRm16One (rm : Rm16) (s : State) : Result :=
  outcome (shift16 .rol rm 1 s)

/-- ROL r/m8, CL (`D2 /0`): `42` R334. -/
def execRolRm8Cl (rm : Rm8) (s : State) : Result :=
  outcome (shift8 .rol rm (s.reg8 .cl) s)

/-- ROL r/m16, CL (`D3 /0`): `42` R334. -/
def execRolRm16Cl (rm : Rm16) (s : State) : Result :=
  outcome (shift16 .rol rm (s.reg8 .cl) s)

/-- ROR r/m8, imm8 (`C0 /1`): `42` R335. -/
def execRorRm8Imm8 (rm : Rm8) (i : Byte) (s : State) : Result :=
  outcome (shift8 .ror rm i s)

/-- ROR r/m16, imm8 (`C1 /1`): `42` R335. -/
def execRorRm16Imm8 (rm : Rm16) (i : Byte) (s : State) : Result :=
  outcome (shift16 .ror rm i s)

/-- ROR r/m8, 1 (`D0 /1`): `42` R335. -/
def execRorRm8One (rm : Rm8) (s : State) : Result :=
  outcome (shift8 .ror rm 1 s)

/-- ROR r/m16, 1 (`D1 /1`): `42` R335. -/
def execRorRm16One (rm : Rm16) (s : State) : Result :=
  outcome (shift16 .ror rm 1 s)

/-- ROR r/m8, CL (`D2 /1`): `42` R335. -/
def execRorRm8Cl (rm : Rm8) (s : State) : Result :=
  outcome (shift8 .ror rm (s.reg8 .cl) s)

/-- ROR r/m16, CL (`D3 /1`): `42` R335. -/
def execRorRm16Cl (rm : Rm16) (s : State) : Result :=
  outcome (shift16 .ror rm (s.reg8 .cl) s)

/-- RCL r/m8, imm8 (`C0 /2`): `42` R336. -/
def execRclRm8Imm8 (rm : Rm8) (i : Byte) (s : State) : Result :=
  outcome (shift8 .rcl rm i s)

/-- RCL r/m16, imm8 (`C1 /2`): `42` R336. -/
def execRclRm16Imm8 (rm : Rm16) (i : Byte) (s : State) : Result :=
  outcome (shift16 .rcl rm i s)

/-- RCL r/m8, 1 (`D0 /2`): `42` R336. -/
def execRclRm8One (rm : Rm8) (s : State) : Result :=
  outcome (shift8 .rcl rm 1 s)

/-- RCL r/m16, 1 (`D1 /2`): `42` R336. -/
def execRclRm16One (rm : Rm16) (s : State) : Result :=
  outcome (shift16 .rcl rm 1 s)

/-- RCL r/m8, CL (`D2 /2`): `42` R336. -/
def execRclRm8Cl (rm : Rm8) (s : State) : Result :=
  outcome (shift8 .rcl rm (s.reg8 .cl) s)

/-- RCL r/m16, CL (`D3 /2`): `42` R336. -/
def execRclRm16Cl (rm : Rm16) (s : State) : Result :=
  outcome (shift16 .rcl rm (s.reg8 .cl) s)

/-- RCR r/m8, imm8 (`C0 /3`): `42` R337. -/
def execRcrRm8Imm8 (rm : Rm8) (i : Byte) (s : State) : Result :=
  outcome (shift8 .rcr rm i s)

/-- RCR r/m16, imm8 (`C1 /3`): `42` R337. -/
def execRcrRm16Imm8 (rm : Rm16) (i : Byte) (s : State) : Result :=
  outcome (shift16 .rcr rm i s)

/-- RCR r/m8, 1 (`D0 /3`): `42` R337. -/
def execRcrRm8One (rm : Rm8) (s : State) : Result :=
  outcome (shift8 .rcr rm 1 s)

/-- RCR r/m16, 1 (`D1 /3`): `42` R337. -/
def execRcrRm16One (rm : Rm16) (s : State) : Result :=
  outcome (shift16 .rcr rm 1 s)

/-- RCR r/m8, CL (`D2 /3`): `42` R337. -/
def execRcrRm8Cl (rm : Rm8) (s : State) : Result :=
  outcome (shift8 .rcr rm (s.reg8 .cl) s)

/-- RCR r/m16, CL (`D3 /3`): `42` R337. -/
def execRcrRm16Cl (rm : Rm16) (s : State) : Result :=
  outcome (shift16 .rcr rm (s.reg8 .cl) s)

/-- SHL/SAL r/m8, imm8 (`C0 /4`): `42` R331. -/
def execShlRm8Imm8 (rm : Rm8) (i : Byte) (s : State) : Result :=
  outcome (shift8 .shl rm i s)

/-- SHL/SAL r/m16, imm8 (`C1 /4`): `42` R331. -/
def execShlRm16Imm8 (rm : Rm16) (i : Byte) (s : State) : Result :=
  outcome (shift16 .shl rm i s)

/-- SHL/SAL r/m8, 1 (`D0 /4`): `42` R331. -/
def execShlRm8One (rm : Rm8) (s : State) : Result :=
  outcome (shift8 .shl rm 1 s)

/-- SHL/SAL r/m16, 1 (`D1 /4`): `42` R331. -/
def execShlRm16One (rm : Rm16) (s : State) : Result :=
  outcome (shift16 .shl rm 1 s)

/-- SHL/SAL r/m8, CL (`D2 /4`): `42` R331. -/
def execShlRm8Cl (rm : Rm8) (s : State) : Result :=
  outcome (shift8 .shl rm (s.reg8 .cl) s)

/-- SHL/SAL r/m16, CL (`D3 /4`): `42` R331. -/
def execShlRm16Cl (rm : Rm16) (s : State) : Result :=
  outcome (shift16 .shl rm (s.reg8 .cl) s)

/-- SHR r/m8, imm8 (`C0 /5`): `42` R332. -/
def execShrRm8Imm8 (rm : Rm8) (i : Byte) (s : State) : Result :=
  outcome (shift8 .shr rm i s)

/-- SHR r/m16, imm8 (`C1 /5`): `42` R332. -/
def execShrRm16Imm8 (rm : Rm16) (i : Byte) (s : State) : Result :=
  outcome (shift16 .shr rm i s)

/-- SHR r/m8, 1 (`D0 /5`): `42` R332. -/
def execShrRm8One (rm : Rm8) (s : State) : Result :=
  outcome (shift8 .shr rm 1 s)

/-- SHR r/m16, 1 (`D1 /5`): `42` R332. -/
def execShrRm16One (rm : Rm16) (s : State) : Result :=
  outcome (shift16 .shr rm 1 s)

/-- SHR r/m8, CL (`D2 /5`): `42` R332. -/
def execShrRm8Cl (rm : Rm8) (s : State) : Result :=
  outcome (shift8 .shr rm (s.reg8 .cl) s)

/-- SHR r/m16, CL (`D3 /5`): `42` R332. -/
def execShrRm16Cl (rm : Rm16) (s : State) : Result :=
  outcome (shift16 .shr rm (s.reg8 .cl) s)

/-- SAR r/m8, imm8 (`C0 /7`): `42` R333. -/
def execSarRm8Imm8 (rm : Rm8) (i : Byte) (s : State) : Result :=
  outcome (shift8 .sar rm i s)

/-- SAR r/m16, imm8 (`C1 /7`): `42` R333. -/
def execSarRm16Imm8 (rm : Rm16) (i : Byte) (s : State) : Result :=
  outcome (shift16 .sar rm i s)

/-- SAR r/m8, 1 (`D0 /7`): `42` R333. -/
def execSarRm8One (rm : Rm8) (s : State) : Result :=
  outcome (shift8 .sar rm 1 s)

/-- SAR r/m16, 1 (`D1 /7`): `42` R333. -/
def execSarRm16One (rm : Rm16) (s : State) : Result :=
  outcome (shift16 .sar rm 1 s)

/-- SAR r/m8, CL (`D2 /7`): `42` R333. -/
def execSarRm8Cl (rm : Rm8) (s : State) : Result :=
  outcome (shift8 .sar rm (s.reg8 .cl) s)

/-- SAR r/m16, CL (`D3 /7`): `42` R333. -/
def execSarRm16Cl (rm : Rm16) (s : State) : Result :=
  outcome (shift16 .sar rm (s.reg8 .cl) s)

/-- TEST r/m8, imm8 (`F6 /0`): `42` R325. -/
def execTestRm8Imm8 (rm : Rm8) (i : Byte) (s : State) : Result :=
  outcome (binop8Imm .test rm i s)

/-- TEST r/m16, imm16 (`F7 /0`): `42` R325. -/
def execTestRm16Imm16 (rm : Rm16) (v : Word) (s : State) : Result :=
  outcome (binop16Imm .test rm v s)

/-- NOT r/m8 (`F6 /2`): `42` R321. -/
def execNotRm8 (rm : Rm8) (s : State) : Result :=
  outcome (not8 rm s)

/-- NOT r/m16 (`F7 /2`): `42` R321. -/
def execNotRm16 (rm : Rm16) (s : State) : Result :=
  outcome (not16 rm s)

end Sys2Proof.Machine
end

