-- ==== Sys2Proof/Machine/DataTransfer.lean ====
section
/-! DEFINITION. Data transfer instructions (`40_data_transfer.md`). -/

namespace Sys2Proof.Machine

open Sys2Proof

/-- MOV of bytes (R201, R205). -/
def mov8 (dst src : Rm8) (s : State) : Except Stop State :=
  let v := getRm8 src s
  .ok (setRm8 dst v.1 v.2)

/-- MOV of words (R201, R205). -/
def mov16 (dst src : Rm16) (s : State) : Except Stop State := do
  let (v, s) ← getRm16 src s
  setRm16 dst v s

/-- `8E`: a segment register loaded; interrupts are held off for one instruction (R203, `60_exceptions.md` R531). -/
def loadSReg (sr : SReg) (rm : Rm16) (s : State) : Except Stop State := do
  let (v, s) ← getRm16 rm s
  .ok { s.setSReg sr v with inhibitNext := true }

/-- PUSH r16 (R210): PUSH SP stores the decremented SP (log 14). -/
def pushReg (r : Reg16) (s : State) : Except Stop State :=
  push (if r = .sp then s.regs.sp - 2 else s.reg16 r) s

/-- PUSH sreg (R212). -/
def pushSReg (sr : SReg) (s : State) : Except Stop State := push (s.sreg sr) s

/-- POP sreg, with the interrupt shadow (R211). -/
def popSReg (sr : SReg) (s : State) : Except Stop State := do
  let (v, s) ← pop s
  .ok { s.setSReg sr v with inhibitNext := true }

/-- The word that `FF /6` pushes (R213): for SP it is unsettled, the old or the decremented value (`92` D16, log 14). -/
def pushedRm (rm : Rm16) (s : State) : Except Stop (Word × State) :=
  match rm with
  | .reg .sp => .ok (if s.free.getLsbD 0 then s.regs.sp else s.regs.sp - 2, s)
  | _ => getRm16 rm s

/-- PUSH r/m16 (R213). -/
def pushRm (rm : Rm16) (s : State) : Except Stop State := do
  let (v, s) ← pushedRm rm s
  push v s.nextFree

/-- POP r16 (R215): for SP the popped word stays. -/
def popReg (r : Reg16) (s : State) : Except Stop State := do
  let (v, s) ← pop s
  .ok (s.setReg16 r v)

/-- POP r/m16 (R216). -/
def popRm (rm : Rm16) (s : State) : Except Stop State := do
  let (v, s) ← pop s
  setRm16 rm v s

/-- Words pushed one after the other. -/
def pushList : List Word → State → Except Stop State
  | [], s => .ok s
  | v :: vs, s => do
    let s ← push v s
    pushList vs s

/-- PUSHA (R217): the SP slot holds the value from before. -/
def pushAll (s : State) : Except Stop State :=
  pushList [s.regs.ax, s.regs.cx, s.regs.dx, s.regs.bx, s.regs.sp, s.regs.bp, s.regs.si, s.regs.di] s

/-- POPA (R218): the SP slot is discarded. -/
def popAll (s : State) : Except Stop State := do
  let (v, s) ← pop s
  let s := s.setReg16 .di v
  let (v, s) ← pop s
  let s := s.setReg16 .si v
  let (v, s) ← pop s
  let s := s.setReg16 .bp v
  let (_, s) ← pop s
  let (v, s) ← pop s
  let s := s.setReg16 .bx v
  let (v, s) ← pop s
  let s := s.setReg16 .dx v
  let (v, s) ← pop s
  let s := s.setReg16 .cx v
  let (v, s) ← pop s
  .ok (s.setReg16 .ax v)

/-- XCHG of bytes (R220). -/
def xchg8 (rm : Rm8) (r : Reg8) (s : State) : Except Stop State :=
  let v := getRm8 rm s
  .ok ((setRm8 rm (s.reg8 r) v.2).setReg8 r v.1)

/-- XCHG of words (R220, R221). -/
def xchg16 (rm : Rm16) (r : Reg16) (s : State) : Except Stop State := do
  let (v, s) ← getRm16 rm s
  let t ← setRm16 rm (s.reg16 r) s
  .ok (t.setReg16 r v)

/-- XLAT (R222): the table's segment is DS or the override. -/
def xlatOp (s : State) : Except Stop State :=
  let v := readByte (overridableSeg .ds s) (s.regs.bx + zeroExt (s.reg8 .al)) s
  .ok (v.2.setReg8 .al v.1)

/-- IN AL (R225). -/
def in8 (port : Word) (s : State) : Except Stop State := do
  let (v, s) ← ioReadByte port s
  .ok (s.setReg8 .al v)

/-- IN AX (R225). -/
def in16 (port : Word) (s : State) : Except Stop State := do
  let (v, s) ← ioReadWord port s
  .ok (s.setReg16 .ax v)

/-- OUT of AL (R226). -/
def out8 (port : Word) (s : State) : Except Stop State := ioWriteByte port (s.reg8 .al) s

/-- OUT of AX (R226). -/
def out16 (port : Word) (s : State) : Except Stop State := ioWriteWord port s.regs.ax s

/-- LDS and LES (R231, R232). -/
def loadPointer (sr : SReg) (r : Reg16) (m : Mem) (s : State) : Except Stop State := do
  let (off, seg, s) ← readPointer (memSeg m s) (ea m s) s
  .ok ((s.setReg16 r off).setSReg sr seg)

/-- The loop of ENTER (R235): saved frame pointers copied, `n` of them. -/
def copyFrames : Nat → State → Except Stop State
  | 0, s => .ok s
  | n + 1, s => do
    let s := s.setReg16 .bp (s.regs.bp - 2)
    let (v, s) ← readWord s.sregs.ss s.regs.bp s
    let s ← push v s
    copyFrames n s

/-- The display part of ENTER at a level above 0 (R235): the copies, then the new frame's address. -/
def pushDisplay (level : Nat) (frame : Word) (s : State) : Except Stop State :=
  if level = 0 then .ok s
  else do
    let s ← copyFrames (level - 1) s
    push frame s

/-- ENTER (R235), the level modulo 32. -/
def enterFrame (v : Word) (l : Byte) (s : State) : Except Stop State := do
  let pushed ← push s.regs.bp s
  let t ← pushDisplay (l.toNat % 32) pushed.regs.sp pushed
  .ok ((t.setReg16 .bp pushed.regs.sp).setReg16 .sp (t.regs.sp - v))

/-- LEAVE (R236). -/
def leaveFrame (s : State) : Except Stop State := do
  let (v, s) ← pop (s.setReg16 .sp s.regs.bp)
  .ok (s.setReg16 .bp v)

/-- LAHF (R250). -/
def lahfOp (s : State) : Except Stop State :=
  .ok (s.setReg8 .ah (lowByte (s.flags.image s.free))).nextFree

/-- SAHF (R251). -/
def sahfOp (s : State) : Except Stop State :=
  let t := flagsOfImage (zeroExt (s.reg8 .ah))
  .ok (s.setFlags { s.flags with sf := t.sf, zf := t.zf, af := t.af, pf := t.pf, cf := t.cf })

/-- PUSHF (R252). -/
def pushPsw (s : State) : Except Stop State := push (s.flags.image s.free) s.nextFree

/-- POPF (R253). -/
def popPsw (s : State) : Except Stop State := do
  let (t, s) ← pop s
  .ok (s.setFlags (flagsOfImage t))

/-- PUSH r16 (`50+r`): `40` R210. -/
def execPushR16 (r : Reg16) (s : State) : Result :=
  outcome (pushReg r s)

/-- POP r16 (`58+r`): `40` R215. -/
def execPopR16 (r : Reg16) (s : State) : Result :=
  outcome (popReg r s)

/-- PUSH imm16 (`68`): `40` R214. -/
def execPushImm16 (v : Word) (s : State) : Result :=
  outcome (push v s)

/-- PUSH imm8 (sign-extended) (`6A`): `40` R214. -/
def execPushImm8 (i : Byte) (s : State) : Result :=
  outcome (push (signExt i) s)

/-- XCHG r/m8, r8 (`86`): `40` R220. -/
def execXchgRm8R8 (rm : Rm8) (r : Reg8) (s : State) : Result :=
  outcome (xchg8 rm r s)

/-- XCHG r/m16, r16 (`87`): `40` R220. -/
def execXchgRm16R16 (rm : Rm16) (r : Reg16) (s : State) : Result :=
  outcome (xchg16 rm r s)

/-- MOV r/m8, r8 (`88`): `40` R201. -/
def execMovRm8R8 (rm : Rm8) (r : Reg8) (s : State) : Result :=
  outcome (mov8 rm (.reg r) s)

/-- MOV r/m16, r16 (`89`): `40` R201. -/
def execMovRm16R16 (rm : Rm16) (r : Reg16) (s : State) : Result :=
  outcome (mov16 rm (.reg r) s)

/-- MOV r8, r/m8 (`8A`): `40` R201. -/
def execMovR8Rm8 (r : Reg8) (rm : Rm8) (s : State) : Result :=
  outcome (mov8 (.reg r) rm s)

/-- MOV r16, r/m16 (`8B`): `40` R201. -/
def execMovR16Rm16 (r : Reg16) (rm : Rm16) (s : State) : Result :=
  outcome (mov16 (.reg r) rm s)

/-- MOV r/m16, sreg (`8C`): `40` R203. -/
def execMovRm16Sreg (rm : Rm16) (sr : SReg) (s : State) : Result :=
  outcome (setRm16 rm (s.sreg sr) s)

/-- LEA r16, m (`8D`): `40` R230. -/
def execLea (r : Reg16) (m : Mem) (s : State) : Result :=
  outcome (.ok (s.setReg16 r (ea m s)))

/-- MOV sreg, r/m16 (`8E`): `40` R203. -/
def execMovSregRm16 (sr : SReg) (rm : Rm16) (s : State) : Result :=
  outcome (loadSReg sr rm s)

/-- POP r/m16 (`8F /0`): `40` R216. -/
def execPopRm16 (rm : Rm16) (s : State) : Result :=
  outcome (popRm rm s)

/-- XCHG AX, r16 (`90+r`): `40` R221. -/
def execXchgAxR16 (r : Reg16) (s : State) : Result :=
  outcome (xchg16 (.reg .ax) r s)

/-- MOV AL, moffs8 (`A0`): `40` R205. -/
def execMovAlMoffs8 (a : Word) (s : State) : Result :=
  outcome (mov8 (.reg .al) (.mem (.direct a)) s)

/-- MOV AX, moffs16 (`A1`): `40` R205. -/
def execMovAxMoffs16 (a : Word) (s : State) : Result :=
  outcome (mov16 (.reg .ax) (.mem (.direct a)) s)

/-- MOV moffs8, AL (`A2`): `40` R205. -/
def execMovMoffs8Al (a : Word) (s : State) : Result :=
  outcome (mov8 (.mem (.direct a)) (.reg .al) s)

/-- MOV moffs16, AX (`A3`): `40` R205. -/
def execMovMoffs16Ax (a : Word) (s : State) : Result :=
  outcome (mov16 (.mem (.direct a)) (.reg .ax) s)

/-- MOV r8, imm8 (`B0+r`): `40` R202. -/
def execMovR8Imm8 (r : Reg8) (i : Byte) (s : State) : Result :=
  outcome (.ok (s.setReg8 r i))

/-- MOV r16, imm16 (`B8+r`): `40` R202. -/
def execMovR16Imm16 (r : Reg16) (v : Word) (s : State) : Result :=
  outcome (.ok (s.setReg16 r v))

/-- LES r16, m16:16 (`C4`): `40` R232. -/
def execLes (r : Reg16) (m : Mem) (s : State) : Result :=
  outcome (loadPointer .es r m s)

/-- LDS r16, m16:16 (`C5`): `40` R231. -/
def execLds (r : Reg16) (m : Mem) (s : State) : Result :=
  outcome (loadPointer .ds r m s)

/-- MOV r/m8, imm8 (`C6 /0`): `40` R204. -/
def execMovRm8Imm8 (rm : Rm8) (i : Byte) (s : State) : Result :=
  outcome (.ok (setRm8 rm i s))

/-- MOV r/m16, imm16 (`C7 /0`): `40` R204. -/
def execMovRm16Imm16 (rm : Rm16) (v : Word) (s : State) : Result :=
  outcome (setRm16 rm v s)

/-- ENTER imm16, imm8 (`C8`): `40` R235. -/
def execEnter (v : Word) (l : Byte) (s : State) : Result :=
  outcome (enterFrame v l s)

/-- IN AL, imm8 (`E4`): `40` R225. -/
def execInAlImm8 (p : Byte) (s : State) : Result :=
  outcome (in8 (zeroExt p) s)

/-- IN AX, imm8 (`E5`): `40` R225. -/
def execInAxImm8 (p : Byte) (s : State) : Result :=
  outcome (in16 (zeroExt p) s)

/-- OUT imm8, AL (`E6`): `40` R226. -/
def execOutImm8Al (p : Byte) (s : State) : Result :=
  outcome (out8 (zeroExt p) s)

/-- OUT imm8, AX (`E7`): `40` R226. -/
def execOutImm8Ax (p : Byte) (s : State) : Result :=
  outcome (out16 (zeroExt p) s)

/-- PUSH r/m16 (`FF /6`): `40` R213. -/
def execPushRm16 (rm : Rm16) (s : State) : Result :=
  outcome (pushRm rm s)

/-- PUSH ES (`06`): `40` R212. -/
def execPushEs (s : State) : Result :=
  outcome (pushSReg .es s)

/-- PUSH CS (`0E`): `40` R212. -/
def execPushCs (s : State) : Result :=
  outcome (pushSReg .cs s)

/-- PUSH SS (`16`): `40` R212. -/
def execPushSs (s : State) : Result :=
  outcome (pushSReg .ss s)

/-- PUSH DS (`1E`): `40` R212. -/
def execPushDs (s : State) : Result :=
  outcome (pushSReg .ds s)

/-- POP ES (`07`): `40` R211. -/
def execPopEs (s : State) : Result :=
  outcome (popSReg .es s)

/-- POP SS (`17`): `40` R211. -/
def execPopSs (s : State) : Result :=
  outcome (popSReg .ss s)

/-- POP DS (`1F`): `40` R211. -/
def execPopDs (s : State) : Result :=
  outcome (popSReg .ds s)

/-- PUSHA (`60`): `40` R217. -/
def execPusha (s : State) : Result :=
  outcome (pushAll s)

/-- POPA (`61`): `40` R218. -/
def execPopa (s : State) : Result :=
  outcome (popAll s)

/-- PUSHF (`9C`): `40` R252. -/
def execPushf (s : State) : Result :=
  outcome (pushPsw s)

/-- POPF (`9D`): `40` R253. -/
def execPopf (s : State) : Result :=
  outcome (popPsw s)

/-- SAHF (`9E`): `40` R251. -/
def execSahf (s : State) : Result :=
  outcome (sahfOp s)

/-- LAHF (`9F`): `40` R250. -/
def execLahf (s : State) : Result :=
  outcome (lahfOp s)

/-- LEAVE (`C9`): `40` R236. -/
def execLeave (s : State) : Result :=
  outcome (leaveFrame s)

/-- XLAT (`D7`): `40` R222. -/
def execXlat (s : State) : Result :=
  outcome (xlatOp s)

/-- IN AL, DX (`EC`): `40` R225. -/
def execInAlDx (s : State) : Result :=
  outcome (in8 s.regs.dx s)

/-- IN AX, DX (`ED`): `40` R225. -/
def execInAxDx (s : State) : Result :=
  outcome (in16 s.regs.dx s)

/-- OUT DX, AL (`EE`): `40` R226. -/
def execOutDxAl (s : State) : Result :=
  outcome (out8 s.regs.dx s)

/-- OUT DX, AX (`EF`): `40` R226. -/
def execOutDxAx (s : State) : Result :=
  outcome (out16 s.regs.dx s)

end Sys2Proof.Machine
end

