-- ==== Sys2Proof/Machine/ProcessorControl.lean ====
section
/-! DEFINITION. Processor control instructions (`45_processor_control.md`) and the prefixes (`30_encoding.md` R140). A prefix is a
step of its own that waits for the rest of its instruction (log 1). -/

namespace Sys2Proof.Machine

open Sys2Proof

/-- A segment override prefix (R489): the last one wins (`92` D33). -/
def segOverride (sr : SReg) (s : State) : Except Stop State :=
  .ok { s with pfx := { s.pfx with seg := some sr }, inPrefix := true }

/-- The LOCK prefix (R487). -/
def lockBus (s : State) : Except Stop State :=
  .ok { s with pfx := { s.pfx with lock := true }, inPrefix := true }

/-- A repeat prefix (`43_string.md` R361); the other one before it is refused (`92` D33, log 18). -/
def repeatWith (r : Rep) (s : State) : Except Stop State :=
  if s.pfx.rep.isSome ∧ s.pfx.rep ≠ some r then .error (.refused .repConflict)
  else .ok { s with pfx := { s.pfx with rep := some r }, inPrefix := true }

/-- STI (R476): when IF was 0, maskable interrupts wait for the instruction after it (log 22). -/
def stiOp (s : State) : Except Stop State :=
  .ok { s.setFlags { s.flags with ifl := true } with stiShadow := !s.flags.ifl }

/-- HLT (R480): halted, with a Halt bus cycle. -/
def haltOp (s : State) : Except Stop State := .ok { s.logEvents [.halt] with halted := true }

/-- WAIT (R481): with TEST# inactive IP goes back to the first byte of the instruction, and the next step tests again (log 25), still in
the shadow the WAIT began in (log 40). -/
def waitOp (s : State) : Except Stop State :=
  if s.testActive then .ok { s with afterWait := true }
  else .ok { s.holdShadows with ip := s.startIp, afterWait := true }

/-- ESC (R485): type 7 as a fault, unless the configuration hands the instruction to an 80C187 (log 26). -/
def escape (s : State) : Except Stop State :=
  if !s.numericsMode || s.et || !Config.bus16 then enterAtStart 7 s else .error (.refused .coprocessor)

/-- ESC opcode, r/m (`D8-DF`): `45` R485. -/
def execEsc (_x : BitVec 3) (_y : BitVec 3) (_rm : Rm16) (s : State) : Result :=
  outcome (escape s)

/-- ES: (segment override prefix) (`26`): `45` R489. -/
def execSegEs (s : State) : Result :=
  outcome (segOverride .es s)

/-- CS: (segment override prefix) (`2E`): `45` R489. -/
def execSegCs (s : State) : Result :=
  outcome (segOverride .cs s)

/-- SS: (segment override prefix) (`36`): `45` R489. -/
def execSegSs (s : State) : Result :=
  outcome (segOverride .ss s)

/-- DS: (segment override prefix) (`3E`): `45` R489. -/
def execSegDs (s : State) : Result :=
  outcome (segOverride .ds s)

/-- NOP (`90`): `45` R488. -/
def execNop (s : State) : Result :=
  outcome (.ok s)

/-- WAIT (`9B`): `45` R481. -/
def execWait (s : State) : Result :=
  outcome (waitOp s)

/-- LOCK (prefix) (`F0`): `45` R487. -/
def execLock (s : State) : Result :=
  outcome (lockBus s)

/-- REPNE/REPNZ (prefix) (`F2`): `43` R361. -/
def execRepne (s : State) : Result :=
  outcome (repeatWith .repne s)

/-- REP/REPE/REPZ (prefix) (`F3`): `43` R361. -/
def execRep (s : State) : Result :=
  outcome (repeatWith .rep s)

/-- HLT (`F4`): `45` R480. -/
def execHlt (s : State) : Result :=
  outcome (haltOp s)

/-- CMC (`F5`): `45` R473. -/
def execCmc (s : State) : Result :=
  outcome (.ok (s.setFlags { s.flags with cf := !s.flags.cf }))

/-- CLC (`F8`): `45` R472. -/
def execClc (s : State) : Result :=
  outcome (.ok (s.setFlags { s.flags with cf := false }))

/-- STC (`F9`): `45` R471. -/
def execStc (s : State) : Result :=
  outcome (.ok (s.setFlags { s.flags with cf := true }))

/-- CLI (`FA`): `45` R477. -/
def execCli (s : State) : Result :=
  outcome (.ok (s.setFlags { s.flags with ifl := false }))

/-- STI (`FB`): `45` R476. -/
def execSti (s : State) : Result :=
  outcome (stiOp s)

/-- CLD (`FC`): `45` R475. -/
def execCld (s : State) : Result :=
  outcome (.ok (s.setFlags { s.flags with df := false }))

/-- STD (`FD`): `45` R474. -/
def execStd (s : State) : Result :=
  outcome (.ok (s.setFlags { s.flags with df := true }))

end Sys2Proof.Machine
end

