-- ==== Sys2Proof/Machine/ProgramTransfer.lean ====
section
/-! DEFINITION. Program transfer instructions (`44_program_transfer.md`). IP is the next instruction's when a meaning runs. -/

namespace Sys2Proof.Machine

open Sys2Proof

/-- A short transfer (R401). -/
def jumpShort (d : Byte) (s : State) : State := s.jump (s.ip + signExt d)

/-- A conditional jump (R405). -/
def jcc (c : Cond) (d : Byte) (s : State) : Except Stop State :=
  .ok (if c.holds s.flags then jumpShort d s else s)

/-- The iteration control instructions (R445 to R447): CX counted down, then the transfer when CX is not 0 and `cond` holds. -/
def loopIf (cond : Bool) (d : Byte) (s : State) : Except Stop State :=
  let t := s.setReg16 .cx (s.regs.cx - 1)
  .ok (if t.regs.cx ≠ 0 ∧ cond = true then jumpShort d t else t)

/-- JMP near indirect (R432). -/
def jumpIndirect (rm : Rm16) (s : State) : Except Stop State := do
  let (t, s) ← getRm16 rm s
  .ok (s.jump t)

/-- JMP far indirect (R434). -/
def jumpFarIndirect (m : Mem) (s : State) : Except Stop State := do
  let (off, seg, s) ← readPointer (memSeg m s) (ea m s) s
  .ok (s.farJump seg off)

/-- CALL near to an offset (R435). -/
def callNearTo (target : Word) (s : State) : Except Stop State := do
  let s ← push s.ip s
  .ok (s.jump target)

/-- CALL near indirect (R436): the target is read before the push. -/
def callIndirect (rm : Rm16) (s : State) : Except Stop State := do
  let (t, s) ← getRm16 rm s
  callNearTo t s

/-- CALL far to a pointer (R437): CS pushed first. -/
def callFarTo (seg off : Word) (s : State) : Except Stop State := do
  let s ← push s.sregs.cs s
  let s ← push s.ip s
  .ok (s.farJump seg off)

/-- CALL far indirect (R438). -/
def callFarIndirect (m : Mem) (s : State) : Except Stop State := do
  let (off, seg, s) ← readPointer (memSeg m s) (ea m s) s
  callFarTo seg off s

/-- RET near, `v` bytes of parameters discarded (R440, R441). -/
def retNearTo (v : Word) (s : State) : Except Stop State := do
  let (ip, s) ← pop s
  .ok ((s.setReg16 .sp (s.regs.sp + v)).jump ip)

/-- RET far, `v` bytes of parameters discarded (R442, R443). -/
def retFarTo (v : Word) (s : State) : Except Stop State := do
  let (ip, s) ← pop s
  let (cs, s) ← pop s
  .ok ((s.setReg16 .sp (s.regs.sp + v)).farJump cs ip)

/-- A software interrupt (R450, R451, R452): a trap, so the next instruction's address is saved. -/
def raiseTrap (n : Byte) (s : State) : Except Stop State := enter n s

/-- BOUND (R453): inclusive signed bounds; the saved address is log 11's. -/
def boundOp (r : Reg16) (m : Mem) (s : State) : Except Stop State := do
  let (lo, s) ← readWord (memSeg m s) (ea m s) s
  let (hi, s) ← readWord (memSeg m s) (ea m s + 2) s
  if (s.reg16 r).toInt < lo.toInt ∨ hi.toInt < (s.reg16 r).toInt then
    enter 5 (s.setIp (if boundSavesNextIp then s.ip else s.startIp))
  else .ok s

/-- BOUND r16, m16&16 (`62`): `44` R453. -/
def execBound (r : Reg16) (m : Mem) (s : State) : Result :=
  outcome (boundOp r m s)

/-- JO rel8 (`70`): `44` R410. -/
def execJo (d : Byte) (s : State) : Result :=
  outcome (jcc .o d s)

/-- JNO rel8 (`71`): `44` R411. -/
def execJno (d : Byte) (s : State) : Result :=
  outcome (jcc .no d s)

/-- JB/JNAE/JC rel8 (`72`): `44` R412. -/
def execJb (d : Byte) (s : State) : Result :=
  outcome (jcc .b d s)

/-- JAE/JNB/JNC rel8 (`73`): `44` R413. -/
def execJae (d : Byte) (s : State) : Result :=
  outcome (jcc .ae d s)

/-- JE/JZ rel8 (`74`): `44` R414. -/
def execJe (d : Byte) (s : State) : Result :=
  outcome (jcc .e d s)

/-- JNE/JNZ rel8 (`75`): `44` R415. -/
def execJne (d : Byte) (s : State) : Result :=
  outcome (jcc .ne d s)

/-- JBE/JNA rel8 (`76`): `44` R416. -/
def execJbe (d : Byte) (s : State) : Result :=
  outcome (jcc .be d s)

/-- JA/JNBE rel8 (`77`): `44` R417. -/
def execJa (d : Byte) (s : State) : Result :=
  outcome (jcc .a d s)

/-- JS rel8 (`78`): `44` R418. -/
def execJs (d : Byte) (s : State) : Result :=
  outcome (jcc .s d s)

/-- JNS rel8 (`79`): `44` R419. -/
def execJns (d : Byte) (s : State) : Result :=
  outcome (jcc .ns d s)

/-- JP/JPE rel8 (`7A`): `44` R420. -/
def execJp (d : Byte) (s : State) : Result :=
  outcome (jcc .p d s)

/-- JNP/JPO rel8 (`7B`): `44` R421. -/
def execJnp (d : Byte) (s : State) : Result :=
  outcome (jcc .np d s)

/-- JL/JNGE rel8 (`7C`): `44` R422. -/
def execJl (d : Byte) (s : State) : Result :=
  outcome (jcc .l d s)

/-- JGE/JNL rel8 (`7D`): `44` R423. -/
def execJge (d : Byte) (s : State) : Result :=
  outcome (jcc .ge d s)

/-- JLE/JNG rel8 (`7E`): `44` R424. -/
def execJle (d : Byte) (s : State) : Result :=
  outcome (jcc .le d s)

/-- JG/JNLE rel8 (`7F`): `44` R425. -/
def execJg (d : Byte) (s : State) : Result :=
  outcome (jcc .g d s)

/-- CALL ptr16:16 (far direct) (`9A`): `44` R437. -/
def execCallFar (off : Word) (seg : Word) (s : State) : Result :=
  outcome (callFarTo seg off s)

/-- RET imm16 (near) (`C2`): `44` R441. -/
def execRetNearImm16 (v : Word) (s : State) : Result :=
  outcome (retNearTo v s)

/-- RET imm16 (far) (`CA`): `44` R443. -/
def execRetFarImm16 (v : Word) (s : State) : Result :=
  outcome (retFarTo v s)

/-- INT imm8 (`CD`): `44` R450. -/
def execIntImm8 (n : Byte) (s : State) : Result :=
  outcome (raiseTrap n s)

/-- LOOPNE/LOOPNZ rel8 (`E0`): `44` R447. -/
def execLoopne (d : Byte) (s : State) : Result :=
  outcome (loopIf (!s.flags.zf) d s)

/-- LOOPE/LOOPZ rel8 (`E1`): `44` R446. -/
def execLoope (d : Byte) (s : State) : Result :=
  outcome (loopIf s.flags.zf d s)

/-- LOOP rel8 (`E2`): `44` R445. -/
def execLoop (d : Byte) (s : State) : Result :=
  outcome (loopIf true d s)

/-- JCXZ rel8 (`E3`): `44` R448. -/
def execJcxz (d : Byte) (s : State) : Result :=
  outcome (.ok (if s.regs.cx = 0 then jumpShort d s else s))

/-- CALL rel16 (near direct) (`E8`): `44` R435. -/
def execCallNear (d : Word) (s : State) : Result :=
  outcome (callNearTo (s.ip + d) s)

/-- JMP rel16 (near direct) (`E9`): `44` R431. -/
def execJmpNear (d : Word) (s : State) : Result :=
  outcome (.ok (s.jump (s.ip + d)))

/-- JMP ptr16:16 (far direct) (`EA`): `44` R433. -/
def execJmpFar (off : Word) (seg : Word) (s : State) : Result :=
  outcome (.ok (s.farJump seg off))

/-- JMP rel8 (short) (`EB`): `44` R430. -/
def execJmpShort (d : Byte) (s : State) : Result :=
  outcome (.ok (jumpShort d s))

/-- CALL r/m16 (near indirect) (`FF /2`): `44` R436. -/
def execCallRm16 (rm : Rm16) (s : State) : Result :=
  outcome (callIndirect rm s)

/-- CALL m16:16 (far indirect) (`FF /3`): `44` R438. -/
def execCallMem32 (m : Mem) (s : State) : Result :=
  outcome (callFarIndirect m s)

/-- JMP r/m16 (near indirect) (`FF /4`): `44` R432. -/
def execJmpRm16 (rm : Rm16) (s : State) : Result :=
  outcome (jumpIndirect rm s)

/-- JMP m16:16 (far indirect) (`FF /5`): `44` R434. -/
def execJmpMem32 (m : Mem) (s : State) : Result :=
  outcome (jumpFarIndirect m s)

/-- RET (near) (`C3`): `44` R440. -/
def execRetNear (s : State) : Result :=
  outcome (retNearTo 0 s)

/-- RET (far) (`CB`): `44` R442. -/
def execRetFar (s : State) : Result :=
  outcome (retFarTo 0 s)

/-- INT 3 (`CC`): `44` R451. -/
def execInt3 (s : State) : Result :=
  outcome (raiseTrap 3 s)

/-- INTO (`CE`): `44` R452. -/
def execInto (s : State) : Result :=
  outcome (if s.flags.ofl then raiseTrap 4 s else .ok s)

/-- IRET (`CF`): `44` R454. -/
def execIret (s : State) : Result :=
  outcome (returnFromInterrupt s)

end Sys2Proof.Machine
end

