-- ==== Sys2Proof/Machine/Strings.lean ====
section
/-! DEFINITION. String instructions (`43_string.md`). `exec` runs one element; under a repeat prefix it leaves the machine between
two iterations, where the step looks for interrupts (log 15). -/

namespace Sys2Proof.Machine

open Sys2Proof

/-- An index register after an element of `n` bytes (R360). -/
def advance (n i : Word) (s : State) : Word := if s.flags.df then i - n else i + n

/-- SI moved past the element. -/
def State.advanceSi (s : State) (n : Word) : State := s.setReg16 .si (advance n s.regs.si s)

/-- DI moved past the element. -/
def State.advanceDi (s : State) (n : Word) : State := s.setReg16 .di (advance n s.regs.di s)

/-- The source string's segment: DS or the override (R360). -/
def srcSeg (s : State) : Word := overridableSeg .ds s

/-- One MOVSB (R370). -/
def movs8 (s : State) : Except Stop State :=
  let v := readByte (srcSeg s) s.regs.si s
  .ok (((writeByte s.sregs.es s.regs.di v.1 v.2).advanceSi 1).advanceDi 1)

/-- One MOVSW (R370). -/
def movs16 (s : State) : Except Stop State := do
  let (v, s) ← readWord (srcSeg s) s.regs.si s
  let t ← writeWord s.sregs.es s.regs.di v s
  .ok ((t.advanceSi 2).advanceDi 2)

/-- One CMPSB (R371): source minus destination. The two reads of a device draw two values (log 20). -/
def cmps8 (s : State) : Except Stop State :=
  let a := readByte (srcSeg s) s.regs.si s
  let b := readByte s.sregs.es s.regs.di a.2.nextFree
  .ok (((b.2.setFlags (subW a.1 b.1 false s.flags).2).advanceSi 1).advanceDi 1)

/-- One CMPSW (R371). -/
def cmps16 (s : State) : Except Stop State := do
  let (a, s) ← readWord (srcSeg s) s.regs.si s
  let (b, s) ← readWord s.sregs.es s.regs.di s.nextFree
  .ok (((s.setFlags (subW a b false s.flags).2).advanceSi 2).advanceDi 2)

/-- One SCASB (R372): accumulator minus element. -/
def scas8 (s : State) : Except Stop State :=
  let b := readByte s.sregs.es s.regs.di s
  .ok ((b.2.setFlags (subW (s.reg8 .al) b.1 false s.flags).2).advanceDi 1)

/-- One SCASW (R372). -/
def scas16 (s : State) : Except Stop State := do
  let (b, s) ← readWord s.sregs.es s.regs.di s
  .ok ((s.setFlags (subW s.regs.ax b false s.flags).2).advanceDi 2)

/-- One LODSB (R373). -/
def lods8 (s : State) : Except Stop State :=
  let v := readByte (srcSeg s) s.regs.si s
  .ok ((v.2.setReg8 .al v.1).advanceSi 1)

/-- One LODSW (R373). -/
def lods16 (s : State) : Except Stop State := do
  let (v, s) ← readWord (srcSeg s) s.regs.si s
  .ok ((s.setReg16 .ax v).advanceSi 2)

/-- One STOSB (R374). -/
def stos8 (s : State) : Except Stop State :=
  .ok ((writeByte s.sregs.es s.regs.di (s.reg8 .al) s).advanceDi 1)

/-- One STOSW (R374). -/
def stos16 (s : State) : Except Stop State := do
  let t ← writeWord s.sregs.es s.regs.di s.regs.ax s
  .ok (t.advanceDi 2)

/-- One INSB (R375). -/
def ins8 (s : State) : Except Stop State := do
  let (v, t) ← ioReadByte s.regs.dx s
  .ok ((writeByte t.sregs.es t.regs.di v t).advanceDi 1)

/-- One INSW (R375). -/
def ins16 (s : State) : Except Stop State := do
  let (v, t) ← ioReadWord s.regs.dx s
  let t ← writeWord t.sregs.es t.regs.di v t
  .ok (t.advanceDi 2)

/-- One OUTSB (R376). -/
def outs8 (s : State) : Except Stop State := do
  let v := readByte (srcSeg s) s.regs.si s
  let t ← ioWriteByte s.regs.dx v.1 v.2
  .ok (t.advanceSi 1)

/-- One OUTSW (R376). -/
def outs16 (s : State) : Except Stop State := do
  let (v, s) ← readWord (srcSeg s) s.regs.si s
  let t ← ioWriteWord s.regs.dx v s
  .ok (t.advanceSi 2)

/-- The value ZF must have for a repeated CMPS or SCAS to go on: the `z` bit of the prefix (`30_encoding.md` R123). -/
def repZ : Rep → Bool
  | .rep => true
  | .repne => false

/-- After an element of a repeated string: CX counted down; then the end, or the machine stays between two iterations with IP at
the prefix byte before the opcode (R361, R362), still in the shadow it began in (`60_exceptions.md` R531). -/
def afterElement (self : Instr) (compare : Bool) (r : Rep) (s : State) : State :=
  let t := s.setReg16 .cx (s.regs.cx - 1)
  if t.regs.cx = 0 ∨ (compare ∧ t.flags.zf ≠ repZ r) then t
  else { t.holdShadows with ip := t.opIp - 1, repeating := some self }

/-- One iteration of the string instruction `self` (R361); `body` is one element, `compare` says it is CMPS or SCAS. -/
def stringStep (self : Instr) (compare : Bool) (body : State → Except Stop State) (s : State) : Except Stop State :=
  match s.pfx.rep with
  | none => body s
  | some r =>
    if compare = false ∧ r = .repne then .error (.refused .repneOnNonCompare)
    else if s.regs.cx = 0 then .ok s
    else do
      let t ← body s
      .ok (afterElement self compare r t)

/-- INSB (`6C`): `43` R375. -/
def execInsb (s : State) : Result :=
  outcome (stringStep .insb false ins8 s)

/-- INSW (`6D`): `43` R375. -/
def execInsw (s : State) : Result :=
  outcome (stringStep .insw false ins16 s)

/-- OUTSB (`6E`): `43` R376. -/
def execOutsb (s : State) : Result :=
  outcome (stringStep .outsb false outs8 s)

/-- OUTSW (`6F`): `43` R376. -/
def execOutsw (s : State) : Result :=
  outcome (stringStep .outsw false outs16 s)

/-- MOVSB (`A4`): `43` R370. -/
def execMovsb (s : State) : Result :=
  outcome (stringStep .movsb false movs8 s)

/-- MOVSW (`A5`): `43` R370. -/
def execMovsw (s : State) : Result :=
  outcome (stringStep .movsw false movs16 s)

/-- CMPSB (`A6`): `43` R371. -/
def execCmpsb (s : State) : Result :=
  outcome (stringStep .cmpsb true cmps8 s)

/-- CMPSW (`A7`): `43` R371. -/
def execCmpsw (s : State) : Result :=
  outcome (stringStep .cmpsw true cmps16 s)

/-- STOSB (`AA`): `43` R374. -/
def execStosb (s : State) : Result :=
  outcome (stringStep .stosb false stos8 s)

/-- STOSW (`AB`): `43` R374. -/
def execStosw (s : State) : Result :=
  outcome (stringStep .stosw false stos16 s)

/-- LODSB (`AC`): `43` R373. -/
def execLodsb (s : State) : Result :=
  outcome (stringStep .lodsb false lods8 s)

/-- LODSW (`AD`): `43` R373. -/
def execLodsw (s : State) : Result :=
  outcome (stringStep .lodsw false lods16 s)

/-- SCASB (`AE`): `43` R372. -/
def execScasb (s : State) : Result :=
  outcome (stringStep .scasb true scas8 s)

/-- SCASW (`AF`): `43` R372. -/
def execScasw (s : State) : Result :=
  outcome (stringStep .scasw true scas16 s)

end Sys2Proof.Machine
end

