-- ==== Sys2Proof/Machine/Dispatch.lean ====
section
/-! DEFINITION. One arm per instruction, each one call of its meaning. The arms stand in the order of `Instr`. -/

namespace Sys2Proof.Machine

open Sys2Proof

def exec (i : Instr) (s : State) : Host.Outcome State Fault Refusal :=
  match i with
  | .addRm8R8 rm r => Sys2Proof.Machine.execAddRm8R8 rm r s
  | .addRm16R16 rm r => Sys2Proof.Machine.execAddRm16R16 rm r s
  | .addR8Rm8 r rm => Sys2Proof.Machine.execAddR8Rm8 r rm s
  | .addR16Rm16 r rm => Sys2Proof.Machine.execAddR16Rm16 r rm s
  | .addAlImm8 imm => Sys2Proof.Machine.execAddAlImm8 imm s
  | .addAxImm16 v => Sys2Proof.Machine.execAddAxImm16 v s
  | .orRm8R8 rm r => Sys2Proof.Machine.execOrRm8R8 rm r s
  | .orRm16R16 rm r => Sys2Proof.Machine.execOrRm16R16 rm r s
  | .orR8Rm8 r rm => Sys2Proof.Machine.execOrR8Rm8 r rm s
  | .orR16Rm16 r rm => Sys2Proof.Machine.execOrR16Rm16 r rm s
  | .orAlImm8 imm => Sys2Proof.Machine.execOrAlImm8 imm s
  | .orAxImm16 v => Sys2Proof.Machine.execOrAxImm16 v s
  | .adcRm8R8 rm r => Sys2Proof.Machine.execAdcRm8R8 rm r s
  | .adcRm16R16 rm r => Sys2Proof.Machine.execAdcRm16R16 rm r s
  | .adcR8Rm8 r rm => Sys2Proof.Machine.execAdcR8Rm8 r rm s
  | .adcR16Rm16 r rm => Sys2Proof.Machine.execAdcR16Rm16 r rm s
  | .adcAlImm8 imm => Sys2Proof.Machine.execAdcAlImm8 imm s
  | .adcAxImm16 v => Sys2Proof.Machine.execAdcAxImm16 v s
  | .sbbRm8R8 rm r => Sys2Proof.Machine.execSbbRm8R8 rm r s
  | .sbbRm16R16 rm r => Sys2Proof.Machine.execSbbRm16R16 rm r s
  | .sbbR8Rm8 r rm => Sys2Proof.Machine.execSbbR8Rm8 r rm s
  | .sbbR16Rm16 r rm => Sys2Proof.Machine.execSbbR16Rm16 r rm s
  | .sbbAlImm8 imm => Sys2Proof.Machine.execSbbAlImm8 imm s
  | .sbbAxImm16 v => Sys2Proof.Machine.execSbbAxImm16 v s
  | .andRm8R8 rm r => Sys2Proof.Machine.execAndRm8R8 rm r s
  | .andRm16R16 rm r => Sys2Proof.Machine.execAndRm16R16 rm r s
  | .andR8Rm8 r rm => Sys2Proof.Machine.execAndR8Rm8 r rm s
  | .andR16Rm16 r rm => Sys2Proof.Machine.execAndR16Rm16 r rm s
  | .andAlImm8 imm => Sys2Proof.Machine.execAndAlImm8 imm s
  | .andAxImm16 v => Sys2Proof.Machine.execAndAxImm16 v s
  | .subRm8R8 rm r => Sys2Proof.Machine.execSubRm8R8 rm r s
  | .subRm16R16 rm r => Sys2Proof.Machine.execSubRm16R16 rm r s
  | .subR8Rm8 r rm => Sys2Proof.Machine.execSubR8Rm8 r rm s
  | .subR16Rm16 r rm => Sys2Proof.Machine.execSubR16Rm16 r rm s
  | .subAlImm8 imm => Sys2Proof.Machine.execSubAlImm8 imm s
  | .subAxImm16 v => Sys2Proof.Machine.execSubAxImm16 v s
  | .xorRm8R8 rm r => Sys2Proof.Machine.execXorRm8R8 rm r s
  | .xorRm16R16 rm r => Sys2Proof.Machine.execXorRm16R16 rm r s
  | .xorR8Rm8 r rm => Sys2Proof.Machine.execXorR8Rm8 r rm s
  | .xorR16Rm16 r rm => Sys2Proof.Machine.execXorR16Rm16 r rm s
  | .xorAlImm8 imm => Sys2Proof.Machine.execXorAlImm8 imm s
  | .xorAxImm16 v => Sys2Proof.Machine.execXorAxImm16 v s
  | .cmpRm8R8 rm r => Sys2Proof.Machine.execCmpRm8R8 rm r s
  | .cmpRm16R16 rm r => Sys2Proof.Machine.execCmpRm16R16 rm r s
  | .cmpR8Rm8 r rm => Sys2Proof.Machine.execCmpR8Rm8 r rm s
  | .cmpR16Rm16 r rm => Sys2Proof.Machine.execCmpR16Rm16 r rm s
  | .cmpAlImm8 imm => Sys2Proof.Machine.execCmpAlImm8 imm s
  | .cmpAxImm16 v => Sys2Proof.Machine.execCmpAxImm16 v s
  | .addRm8Imm8 rm imm => Sys2Proof.Machine.execAddRm8Imm8 rm imm s
  | .addRm16Imm16 rm v => Sys2Proof.Machine.execAddRm16Imm16 rm v s
  | .addRm16Imm8 rm imm => Sys2Proof.Machine.execAddRm16Imm8 rm imm s
  | .orRm8Imm8 rm imm => Sys2Proof.Machine.execOrRm8Imm8 rm imm s
  | .orRm16Imm16 rm v => Sys2Proof.Machine.execOrRm16Imm16 rm v s
  | .adcRm8Imm8 rm imm => Sys2Proof.Machine.execAdcRm8Imm8 rm imm s
  | .adcRm16Imm16 rm v => Sys2Proof.Machine.execAdcRm16Imm16 rm v s
  | .adcRm16Imm8 rm imm => Sys2Proof.Machine.execAdcRm16Imm8 rm imm s
  | .sbbRm8Imm8 rm imm => Sys2Proof.Machine.execSbbRm8Imm8 rm imm s
  | .sbbRm16Imm16 rm v => Sys2Proof.Machine.execSbbRm16Imm16 rm v s
  | .sbbRm16Imm8 rm imm => Sys2Proof.Machine.execSbbRm16Imm8 rm imm s
  | .andRm8Imm8 rm imm => Sys2Proof.Machine.execAndRm8Imm8 rm imm s
  | .andRm16Imm16 rm v => Sys2Proof.Machine.execAndRm16Imm16 rm v s
  | .subRm8Imm8 rm imm => Sys2Proof.Machine.execSubRm8Imm8 rm imm s
  | .subRm16Imm16 rm v => Sys2Proof.Machine.execSubRm16Imm16 rm v s
  | .subRm16Imm8 rm imm => Sys2Proof.Machine.execSubRm16Imm8 rm imm s
  | .xorRm8Imm8 rm imm => Sys2Proof.Machine.execXorRm8Imm8 rm imm s
  | .xorRm16Imm16 rm v => Sys2Proof.Machine.execXorRm16Imm16 rm v s
  | .cmpRm8Imm8 rm imm => Sys2Proof.Machine.execCmpRm8Imm8 rm imm s
  | .cmpRm16Imm16 rm v => Sys2Proof.Machine.execCmpRm16Imm16 rm v s
  | .cmpRm16Imm8 rm imm => Sys2Proof.Machine.execCmpRm16Imm8 rm imm s
  | .incR16 r => Sys2Proof.Machine.execIncR16 r s
  | .decR16 r => Sys2Proof.Machine.execDecR16 r s
  | .pushR16 r => Sys2Proof.Machine.execPushR16 r s
  | .popR16 r => Sys2Proof.Machine.execPopR16 r s
  | .bound r m => Sys2Proof.Machine.execBound r m s
  | .pushImm16 v => Sys2Proof.Machine.execPushImm16 v s
  | .imulR16Rm16Imm16 r rm v => Sys2Proof.Machine.execImulR16Rm16Imm16 r rm v s
  | .pushImm8 imm => Sys2Proof.Machine.execPushImm8 imm s
  | .imulR16Rm16Imm8 r rm imm => Sys2Proof.Machine.execImulR16Rm16Imm8 r rm imm s
  | .jo d => Sys2Proof.Machine.execJo d s
  | .jno d => Sys2Proof.Machine.execJno d s
  | .jb d => Sys2Proof.Machine.execJb d s
  | .jae d => Sys2Proof.Machine.execJae d s
  | .je d => Sys2Proof.Machine.execJe d s
  | .jne d => Sys2Proof.Machine.execJne d s
  | .jbe d => Sys2Proof.Machine.execJbe d s
  | .ja d => Sys2Proof.Machine.execJa d s
  | .js d => Sys2Proof.Machine.execJs d s
  | .jns d => Sys2Proof.Machine.execJns d s
  | .jp d => Sys2Proof.Machine.execJp d s
  | .jnp d => Sys2Proof.Machine.execJnp d s
  | .jl d => Sys2Proof.Machine.execJl d s
  | .jge d => Sys2Proof.Machine.execJge d s
  | .jle d => Sys2Proof.Machine.execJle d s
  | .jg d => Sys2Proof.Machine.execJg d s
  | .testRm8R8 rm r => Sys2Proof.Machine.execTestRm8R8 rm r s
  | .testRm16R16 rm r => Sys2Proof.Machine.execTestRm16R16 rm r s
  | .xchgRm8R8 rm r => Sys2Proof.Machine.execXchgRm8R8 rm r s
  | .xchgRm16R16 rm r => Sys2Proof.Machine.execXchgRm16R16 rm r s
  | .movRm8R8 rm r => Sys2Proof.Machine.execMovRm8R8 rm r s
  | .movRm16R16 rm r => Sys2Proof.Machine.execMovRm16R16 rm r s
  | .movR8Rm8 r rm => Sys2Proof.Machine.execMovR8Rm8 r rm s
  | .movR16Rm16 r rm => Sys2Proof.Machine.execMovR16Rm16 r rm s
  | .movRm16Sreg rm sr => Sys2Proof.Machine.execMovRm16Sreg rm sr s
  | .lea r m => Sys2Proof.Machine.execLea r m s
  | .movSregRm16 sr rm => Sys2Proof.Machine.execMovSregRm16 sr rm s
  | .popRm16 rm => Sys2Proof.Machine.execPopRm16 rm s
  | .xchgAxR16 r => Sys2Proof.Machine.execXchgAxR16 r s
  | .callFar off seg => Sys2Proof.Machine.execCallFar off seg s
  | .movAlMoffs8 a => Sys2Proof.Machine.execMovAlMoffs8 a s
  | .movAxMoffs16 a => Sys2Proof.Machine.execMovAxMoffs16 a s
  | .movMoffs8Al a => Sys2Proof.Machine.execMovMoffs8Al a s
  | .movMoffs16Ax a => Sys2Proof.Machine.execMovMoffs16Ax a s
  | .testAlImm8 imm => Sys2Proof.Machine.execTestAlImm8 imm s
  | .testAxImm16 v => Sys2Proof.Machine.execTestAxImm16 v s
  | .movR8Imm8 r imm => Sys2Proof.Machine.execMovR8Imm8 r imm s
  | .movR16Imm16 r v => Sys2Proof.Machine.execMovR16Imm16 r v s
  | .rolRm8Imm8 rm imm => Sys2Proof.Machine.execRolRm8Imm8 rm imm s
  | .rolRm16Imm8 rm imm => Sys2Proof.Machine.execRolRm16Imm8 rm imm s
  | .rolRm8One rm => Sys2Proof.Machine.execRolRm8One rm s
  | .rolRm16One rm => Sys2Proof.Machine.execRolRm16One rm s
  | .rolRm8Cl rm => Sys2Proof.Machine.execRolRm8Cl rm s
  | .rolRm16Cl rm => Sys2Proof.Machine.execRolRm16Cl rm s
  | .rorRm8Imm8 rm imm => Sys2Proof.Machine.execRorRm8Imm8 rm imm s
  | .rorRm16Imm8 rm imm => Sys2Proof.Machine.execRorRm16Imm8 rm imm s
  | .rorRm8One rm => Sys2Proof.Machine.execRorRm8One rm s
  | .rorRm16One rm => Sys2Proof.Machine.execRorRm16One rm s
  | .rorRm8Cl rm => Sys2Proof.Machine.execRorRm8Cl rm s
  | .rorRm16Cl rm => Sys2Proof.Machine.execRorRm16Cl rm s
  | .rclRm8Imm8 rm imm => Sys2Proof.Machine.execRclRm8Imm8 rm imm s
  | .rclRm16Imm8 rm imm => Sys2Proof.Machine.execRclRm16Imm8 rm imm s
  | .rclRm8One rm => Sys2Proof.Machine.execRclRm8One rm s
  | .rclRm16One rm => Sys2Proof.Machine.execRclRm16One rm s
  | .rclRm8Cl rm => Sys2Proof.Machine.execRclRm8Cl rm s
  | .rclRm16Cl rm => Sys2Proof.Machine.execRclRm16Cl rm s
  | .rcrRm8Imm8 rm imm => Sys2Proof.Machine.execRcrRm8Imm8 rm imm s
  | .rcrRm16Imm8 rm imm => Sys2Proof.Machine.execRcrRm16Imm8 rm imm s
  | .rcrRm8One rm => Sys2Proof.Machine.execRcrRm8One rm s
  | .rcrRm16One rm => Sys2Proof.Machine.execRcrRm16One rm s
  | .rcrRm8Cl rm => Sys2Proof.Machine.execRcrRm8Cl rm s
  | .rcrRm16Cl rm => Sys2Proof.Machine.execRcrRm16Cl rm s
  | .shlRm8Imm8 rm imm => Sys2Proof.Machine.execShlRm8Imm8 rm imm s
  | .shlRm16Imm8 rm imm => Sys2Proof.Machine.execShlRm16Imm8 rm imm s
  | .shlRm8One rm => Sys2Proof.Machine.execShlRm8One rm s
  | .shlRm16One rm => Sys2Proof.Machine.execShlRm16One rm s
  | .shlRm8Cl rm => Sys2Proof.Machine.execShlRm8Cl rm s
  | .shlRm16Cl rm => Sys2Proof.Machine.execShlRm16Cl rm s
  | .shrRm8Imm8 rm imm => Sys2Proof.Machine.execShrRm8Imm8 rm imm s
  | .shrRm16Imm8 rm imm => Sys2Proof.Machine.execShrRm16Imm8 rm imm s
  | .shrRm8One rm => Sys2Proof.Machine.execShrRm8One rm s
  | .shrRm16One rm => Sys2Proof.Machine.execShrRm16One rm s
  | .shrRm8Cl rm => Sys2Proof.Machine.execShrRm8Cl rm s
  | .shrRm16Cl rm => Sys2Proof.Machine.execShrRm16Cl rm s
  | .sarRm8Imm8 rm imm => Sys2Proof.Machine.execSarRm8Imm8 rm imm s
  | .sarRm16Imm8 rm imm => Sys2Proof.Machine.execSarRm16Imm8 rm imm s
  | .sarRm8One rm => Sys2Proof.Machine.execSarRm8One rm s
  | .sarRm16One rm => Sys2Proof.Machine.execSarRm16One rm s
  | .sarRm8Cl rm => Sys2Proof.Machine.execSarRm8Cl rm s
  | .sarRm16Cl rm => Sys2Proof.Machine.execSarRm16Cl rm s
  | .retNearImm16 v => Sys2Proof.Machine.execRetNearImm16 v s
  | .les r m => Sys2Proof.Machine.execLes r m s
  | .lds r m => Sys2Proof.Machine.execLds r m s
  | .movRm8Imm8 rm imm => Sys2Proof.Machine.execMovRm8Imm8 rm imm s
  | .movRm16Imm16 rm v => Sys2Proof.Machine.execMovRm16Imm16 rm v s
  | .enter v l => Sys2Proof.Machine.execEnter v l s
  | .retFarImm16 v => Sys2Proof.Machine.execRetFarImm16 v s
  | .intImm8 n => Sys2Proof.Machine.execIntImm8 n s
  | .esc x y rm => Sys2Proof.Machine.execEsc x y rm s
  | .loopne d => Sys2Proof.Machine.execLoopne d s
  | .loope d => Sys2Proof.Machine.execLoope d s
  | .loop d => Sys2Proof.Machine.execLoop d s
  | .jcxz d => Sys2Proof.Machine.execJcxz d s
  | .inAlImm8 p => Sys2Proof.Machine.execInAlImm8 p s
  | .inAxImm8 p => Sys2Proof.Machine.execInAxImm8 p s
  | .outImm8Al p => Sys2Proof.Machine.execOutImm8Al p s
  | .outImm8Ax p => Sys2Proof.Machine.execOutImm8Ax p s
  | .callNear d => Sys2Proof.Machine.execCallNear d s
  | .jmpNear d => Sys2Proof.Machine.execJmpNear d s
  | .jmpFar off seg => Sys2Proof.Machine.execJmpFar off seg s
  | .jmpShort d => Sys2Proof.Machine.execJmpShort d s
  | .testRm8Imm8 rm imm => Sys2Proof.Machine.execTestRm8Imm8 rm imm s
  | .testRm16Imm16 rm v => Sys2Proof.Machine.execTestRm16Imm16 rm v s
  | .notRm8 rm => Sys2Proof.Machine.execNotRm8 rm s
  | .notRm16 rm => Sys2Proof.Machine.execNotRm16 rm s
  | .negRm8 rm => Sys2Proof.Machine.execNegRm8 rm s
  | .negRm16 rm => Sys2Proof.Machine.execNegRm16 rm s
  | .mulRm8 rm => Sys2Proof.Machine.execMulRm8 rm s
  | .mulRm16 rm => Sys2Proof.Machine.execMulRm16 rm s
  | .imulRm8 rm => Sys2Proof.Machine.execImulRm8 rm s
  | .imulRm16 rm => Sys2Proof.Machine.execImulRm16 rm s
  | .divRm8 rm => Sys2Proof.Machine.execDivRm8 rm s
  | .divRm16 rm => Sys2Proof.Machine.execDivRm16 rm s
  | .idivRm8 rm => Sys2Proof.Machine.execIdivRm8 rm s
  | .idivRm16 rm => Sys2Proof.Machine.execIdivRm16 rm s
  | .incRm8 rm => Sys2Proof.Machine.execIncRm8 rm s
  | .decRm8 rm => Sys2Proof.Machine.execDecRm8 rm s
  | .incRm16 rm => Sys2Proof.Machine.execIncRm16 rm s
  | .decRm16 rm => Sys2Proof.Machine.execDecRm16 rm s
  | .callRm16 rm => Sys2Proof.Machine.execCallRm16 rm s
  | .callMem32 m => Sys2Proof.Machine.execCallMem32 m s
  | .jmpRm16 rm => Sys2Proof.Machine.execJmpRm16 rm s
  | .jmpMem32 m => Sys2Proof.Machine.execJmpMem32 m s
  | .pushRm16 rm => Sys2Proof.Machine.execPushRm16 rm s
  | .pushEs => Sys2Proof.Machine.execPushEs s
  | .pushCs => Sys2Proof.Machine.execPushCs s
  | .pushSs => Sys2Proof.Machine.execPushSs s
  | .pushDs => Sys2Proof.Machine.execPushDs s
  | .popEs => Sys2Proof.Machine.execPopEs s
  | .popSs => Sys2Proof.Machine.execPopSs s
  | .popDs => Sys2Proof.Machine.execPopDs s
  | .segEs => Sys2Proof.Machine.execSegEs s
  | .segCs => Sys2Proof.Machine.execSegCs s
  | .segSs => Sys2Proof.Machine.execSegSs s
  | .segDs => Sys2Proof.Machine.execSegDs s
  | .daa => Sys2Proof.Machine.execDaa s
  | .das => Sys2Proof.Machine.execDas s
  | .aaa => Sys2Proof.Machine.execAaa s
  | .aas => Sys2Proof.Machine.execAas s
  | .pusha => Sys2Proof.Machine.execPusha s
  | .popa => Sys2Proof.Machine.execPopa s
  | .insb => Sys2Proof.Machine.execInsb s
  | .insw => Sys2Proof.Machine.execInsw s
  | .outsb => Sys2Proof.Machine.execOutsb s
  | .outsw => Sys2Proof.Machine.execOutsw s
  | .nop => Sys2Proof.Machine.execNop s
  | .cbw => Sys2Proof.Machine.execCbw s
  | .cwd => Sys2Proof.Machine.execCwd s
  | .wait => Sys2Proof.Machine.execWait s
  | .pushf => Sys2Proof.Machine.execPushf s
  | .popf => Sys2Proof.Machine.execPopf s
  | .sahf => Sys2Proof.Machine.execSahf s
  | .lahf => Sys2Proof.Machine.execLahf s
  | .movsb => Sys2Proof.Machine.execMovsb s
  | .movsw => Sys2Proof.Machine.execMovsw s
  | .cmpsb => Sys2Proof.Machine.execCmpsb s
  | .cmpsw => Sys2Proof.Machine.execCmpsw s
  | .stosb => Sys2Proof.Machine.execStosb s
  | .stosw => Sys2Proof.Machine.execStosw s
  | .lodsb => Sys2Proof.Machine.execLodsb s
  | .lodsw => Sys2Proof.Machine.execLodsw s
  | .scasb => Sys2Proof.Machine.execScasb s
  | .scasw => Sys2Proof.Machine.execScasw s
  | .retNear => Sys2Proof.Machine.execRetNear s
  | .leave => Sys2Proof.Machine.execLeave s
  | .retFar => Sys2Proof.Machine.execRetFar s
  | .int3 => Sys2Proof.Machine.execInt3 s
  | .into => Sys2Proof.Machine.execInto s
  | .iret => Sys2Proof.Machine.execIret s
  | .aam => Sys2Proof.Machine.execAam s
  | .aad => Sys2Proof.Machine.execAad s
  | .xlat => Sys2Proof.Machine.execXlat s
  | .inAlDx => Sys2Proof.Machine.execInAlDx s
  | .inAxDx => Sys2Proof.Machine.execInAxDx s
  | .outDxAl => Sys2Proof.Machine.execOutDxAl s
  | .outDxAx => Sys2Proof.Machine.execOutDxAx s
  | .lock => Sys2Proof.Machine.execLock s
  | .repne => Sys2Proof.Machine.execRepne s
  | .rep => Sys2Proof.Machine.execRep s
  | .hlt => Sys2Proof.Machine.execHlt s
  | .cmc => Sys2Proof.Machine.execCmc s
  | .clc => Sys2Proof.Machine.execClc s
  | .stc => Sys2Proof.Machine.execStc s
  | .cli => Sys2Proof.Machine.execCli s
  | .sti => Sys2Proof.Machine.execSti s
  | .cld => Sys2Proof.Machine.execCld s
  | .std => Sys2Proof.Machine.execStd s

end Sys2Proof.Machine
end

