-- ==== Sys2Proof/Machine/Fetch.lean ====
section
/-! DEFINITION. Reading code bytes at CS:IP (`10_state.md` R31, `20_memory.md` R100), and placing an instruction there. -/

namespace Sys2Proof.Machine

open Sys2Proof

/-- The code byte at an address. If a store replaced it while the queue may have held it, the fetch sees the byte in memory or one
of the bytes replaced: a free choice (R100, `92` D9, log 19). -/
def fetchByte (a : Nat) (s : State) : Byte × State :=
  match s.stale.filter (fun c => c.1 == a) with
  | [] => (s.loadByte a, s)
  | c :: cs =>
    match (c :: cs)[s.free.toNat % (cs.length + 2)]? with
    | some old => (old.2, s.nextFree)
    | none => (s.loadByte a, s.nextFree)

/-- `n` code bytes from an offset of the code segment on; offsets wrap (`10_state.md` R32, log 30). -/
def fetchBytes : Nat → Word → State → List Byte × State
  | 0, _, s => ([], s)
  | n + 1, off, s =>
    let head := fetchByte (phys s.sregs.cs off) s
    let tail := fetchBytes n (off + 1) head.2
    (head.1 :: tail.1, tail.2)

/-- The bytes of the next instruction, without its prefixes: as many as the longest has (R121). -/
def fetch (s : State) : List Byte × State := fetchBytes maxLength s.ip s

/-- Bytes written at an offset of a segment and the offsets after it. -/
def placeBytes : List Byte → Word → Word → Memory → Memory
  | [], _, _, m => m
  | b :: bs, seg, off, m => placeBytes bs seg (off + 1) (Memory.write m (phys seg off) b)

/-- The state whose next step fetches the bytes: they stand at CS:IP in RAM, and nothing waits to be done before (log 31). -/
def placeNext (bs : List Byte) (s : State) : State :=
  { s with
    mem := placeBytes bs s.sregs.cs s.ip s.mem
    memMap := []
    pcbInMemory := false
    stale := []
    nmiPending := false
    intr := none
    halted := false
    inPrefix := false
    pfx := Prefixes.none
    repeating := none
    env := [] }

end Sys2Proof.Machine
end

