-- ==== Sys2Proof/Machine/Step.lean ====
section
/-! DEFINITION. One step of the machine (`92` D1, log 1). -/

namespace Sys2Proof.Machine

open Sys2Proof

/-- One step: an interrupt that an open boundary takes, and the single-step trap after it when TF is set there (`60_exceptions.md`
R537, R538, log 42); or, when halted, nothing (R480); or the next iteration of a repeated string; or the next prefix or
instruction. -/
def step (s : State) : Host.Outcome State Fault Refusal :=
  match dueInterrupt s with
  | some d => finish (s.flags.tf && s.repeating.isNone) (outcome (takeInterrupt d s))
  | none =>
    if s.halted then finish false (.next s)
    else
      match s.repeating with
      | some i => finish s.flags.tf (exec i (resume s))
      | none =>
        match decode (fetch s).1 with
        | .instr i rest =>
          if repMisused i s then .refused .repOnNonString
          else finish s.flags.tf (exec i (begin (maxLength - rest.length) (fetch s).2))
        | .undefined => finish s.flags.tf (outcome (invalidOpcode (begin 0 (fetch s).2)))
        | .undocumented => .refused .undocumentedEncoding
        | .truncated => .refused .undocumentedEncoding

/-- The state with an instruction of bits `w` where the next step fetches (log 31, log 38). -/
def State.withFetchWord (s : State) (nbits w : Nat) : State := placeNext (tableBytes nbits w) s

end Sys2Proof.Machine
end

