-- ==== Sys2Proof/Safety.lean ====
section
/-! DEFINITION. What a good state is, and the vocabulary in which the statements say what an instruction does and leaves alone. -/

namespace Sys2Proof.Safety

open Sys2Proof Sys2Proof.Machine

/-! ### The invariant -/

/-- The fourteen string instructions (`43_string.md`). -/
def isString (i : Instr) : Prop :=
  i ∈ [Instr.movsb, .movsw, .cmpsb, .cmpsw, .scasb, .scasw, .lodsb, .lodsw, .stosb, .stosw, .insb, .insw, .outsb, .outsw]

/-- Between two instructions no prefix is in force (`30_encoding.md` R140). -/
def PrefixesClean (s : State) : Prop := s.inPrefix = false → s.repeating = none → s.pfx = Prefixes.none

/-- A repeated instruction in progress is a string instruction under a repeat prefix, with elements left, and IP at the prefix byte
before its opcode (`43_string.md` R361, R362). -/
def RepeatOk (s : State) : Prop :=
  ∀ i, s.repeating = some i →
    isString i ∧ s.pfx.rep.isSome = true ∧ s.regs.cx ≠ 0 ∧ s.ip = s.opIp - 1 ∧ s.inPrefix = false ∧ s.halted = false

/-- A halted machine is between two instructions (`45_processor_control.md` R480). -/
def HaltOk (s : State) : Prop := s.halted = true → s.inPrefix = false

/-- The invariant of every run: memory in canonical form, and the instruction in progress well-formed. -/
structure Inv (s : State) : Prop where
  memory : Memory.wf s.mem
  prefixes : PrefixesClean s
  repeated : RepeatOk s
  halt : HaltOk s

/-! ### Operands -/

/-- The bytes of memory that a byte operand occupies. -/
def bytesOf8 (rm : Rm8) (s : State) : List Nat :=
  match rm with
  | .reg _ => []
  | .mem m => [phys (memSeg m s) (ea m s)]

/-- The bytes of memory that a word at a segment and offset occupies. -/
def wordBytes (seg off : Word) : List Nat := [phys seg off, nextAddr (phys seg off)]

/-- The bytes of memory that a word operand occupies. -/
def bytesOf16 (rm : Rm16) (s : State) : List Nat :=
  match rm with
  | .reg _ => []
  | .mem m => wordBytes (memSeg m s) (ea m s)

/-- The addresses are RAM (`92` D5). -/
def Ram (as : List Nat) (s : State) : Prop := ∀ a ∈ as, s.region a = none

/-- The word operand is no word at offset 0FFFFH (`20_memory.md` R83). -/
def Accessible (rm : Rm16) (s : State) : Prop := ∀ m, rm = .mem m → ea m s ≠ 0xFFFF#16

/-- The value of a byte operand. -/
def opByte (rm : Rm8) (s : State) : Byte :=
  match rm with
  | .reg r => s.reg8 r
  | .mem m => s.loadByte (phys (memSeg m s) (ea m s))

/-- The value of an accessible word operand. -/
def opWord (rm : Rm16) (s : State) : Word :=
  match rm with
  | .reg r => s.reg16 r
  | .mem m => s.loadWord (phys (memSeg m s) (ea m s))

/-- The word that memory holds at a segment and offset. -/
def heldWord (s : State) (seg off : Word) : Word :=
  joinBytes (Memory.read s.mem (phys seg off)) (Memory.read s.mem (nextAddr (phys seg off)))

/-! ### Bus cycles -/

/-- Memory reads and writes, and no other event (`20_memory.md` R105). -/
def DataCycles (es : List BusEvent) : Prop := ∀ e ∈ es, e.cycleType = .memoryRead ∨ e.cycleType = .memoryWrite

/-- From `s` to `t` the log grows by memory reads and writes alone. -/
def OnlyDataCycles (s t : State) : Prop := ∃ es, DataCycles es ∧ t.busLog = s.busLog ++ es

/-- The meaning answers `t`, with the memory reads and writes of the way from `s` in the log. -/
def Completes (r : Result) (s t : State) : Prop := ∃ es, DataCycles es ∧ r = .next { t with busLog := s.busLog ++ es }

/-- The bus cycles that read a byte operand. -/
def readCycles8 (rm : Rm8) (s : State) : List BusEvent :=
  match rm with
  | .reg _ => []
  | .mem m => [.memRead false (phys (memSeg m s) (ea m s)) (zeroExt (opByte rm s))]

/-- The bus cycles that read a word operand. -/
def readCycles16 (rm : Rm16) (s : State) : List BusEvent :=
  match rm with
  | .reg _ => []
  | .mem m => s.wordReadCycles (phys (memSeg m s) (ea m s))

/-! ### Frames -/

/-- Every byte of memory outside the list reads as before, and nothing is written to a device when the list is RAM. -/
structure MemSameBut (as : List Nat) (s t : State) : Prop where
  bytes : ∀ a, a ∉ as → Memory.read t.mem a = Memory.read s.mem a
  devices : Ram as s → t.devWrites = s.devWrites

/-- `t` is `s` with the byte `v` in the operand; flags apart, nothing else changes but the count of free values, the bytes the
prefetch queue may still hold, and the log, which grows by memory cycles. -/
structure WroteByte (rm : Rm8) (v : Byte) (s t : State) : Prop where
  rest : t = { s with regs := t.regs, flags := t.flags, mem := t.mem, stale := t.stale, devWrites := t.devWrites,
                      busLog := t.busLog, freeCount := t.freeCount }
  cycles : OnlyDataCycles s t
  value : Ram (bytesOf8 rm s) s → opByte rm t = v
  halves : ∀ h, rm ≠ .reg h → t.reg8 h = s.reg8 h
  pointers : t.regs.sp = s.regs.sp ∧ t.regs.bp = s.regs.bp ∧ t.regs.si = s.regs.si ∧ t.regs.di = s.regs.di
  memory : MemSameBut (bytesOf8 rm s) s t

/-- The same for a word. -/
structure WroteWord (rm : Rm16) (v : Word) (s t : State) : Prop where
  rest : t = { s with regs := t.regs, flags := t.flags, mem := t.mem, stale := t.stale, devWrites := t.devWrites,
                      busLog := t.busLog, freeCount := t.freeCount }
  cycles : OnlyDataCycles s t
  value : Ram (bytesOf16 rm s) s → opWord rm t = v
  registers : ∀ r, rm ≠ .reg r → t.reg16 r = s.reg16 r
  memory : MemSameBut (bytesOf16 rm s) s t

/-- The word `v` is pushed (`20_memory.md` R86), and `fields` of the state apart nothing else changes. -/
structure Pushed (v : Word) (s t : State) : Prop where
  rest : t = { s with regs := { s.regs with sp := s.regs.sp - 2 }, mem := t.mem, stale := t.stale, devWrites := t.devWrites,
                      busLog := t.busLog, freeCount := t.freeCount }
  cycles : OnlyDataCycles s t
  value : Ram (wordBytes s.sregs.ss (s.regs.sp - 2)) s → heldWord t s.sregs.ss (s.regs.sp - 2) = v
  memory : MemSameBut (wordBytes s.sregs.ss (s.regs.sp - 2)) s t

/-- The word on top of the stack (`20_memory.md` R86). -/
def stackTop (s : State) : Word := s.loadWord (phys s.sregs.ss s.regs.sp)

/-- The word `k` bytes above the top of the stack. -/
def stackWord (s : State) (k : Word) : Word := s.loadWord (phys s.sregs.ss (s.regs.sp + k))

/-! ### Flags -/

/-- The low byte has an even number of 1 bits (`00_scope.md` R14). -/
def evenOnes {w : Nat} (r : BitVec w) : Bool := (List.range 8).countP (fun k => r.getLsbD k) % 2 == 0

/-- SF, ZF and PF are those of a result (R14). -/
structure ResultFlags {w : Nat} (r : BitVec w) (g : Flags) : Prop where
  sf : g.sf = r.getLsbD (w - 1)
  zf : g.zf = decide (r.toNat = 0)
  pf : g.pf = evenOnes r

/-- TF, IF and DF are kept. -/
structure ControlKept (f g : Flags) : Prop where
  tf : g.tf = f.tf
  ifl : g.ifl = f.ifl
  df : g.df = f.df

/-- The flags of `add_W(a, b, c)` (R14). -/
structure AddFlags {w : Nat} (a b : BitVec w) (c : Bool) (f g : Flags) : Prop where
  cf : g.cf = decide (2 ^ w ≤ a.toNat + b.toNat + c.toNat)
  af : g.af = decide (16 ≤ a.toNat % 16 + b.toNat % 16 + c.toNat)
  ofl : g.ofl = (decide (a.getLsbD (w - 1) = b.getLsbD (w - 1)) &&
    decide ((a + b + BitVec.ofNat w c.toNat).getLsbD (w - 1) ≠ a.getLsbD (w - 1)))
  result : ResultFlags (a + b + BitVec.ofNat w c.toNat) g
  control : ControlKept f g

/-- The flags of `sub_W(a, b, c)` (R14). -/
structure SubFlags {w : Nat} (a b : BitVec w) (c : Bool) (f g : Flags) : Prop where
  cf : g.cf = decide (a.toNat < b.toNat + c.toNat)
  af : g.af = decide (a.toNat % 16 < b.toNat % 16 + c.toNat)
  ofl : g.ofl = (decide (a.getLsbD (w - 1) ≠ b.getLsbD (w - 1)) &&
    decide ((a - b - BitVec.ofNat w c.toNat).getLsbD (w - 1) ≠ a.getLsbD (w - 1)))
  result : ResultFlags (a - b - BitVec.ofNat w c.toNat) g
  control : ControlKept f g

/-- The flags of `logic_W(r)` (R14); AF is free. -/
structure LogicFlags {w : Nat} (r : BitVec w) (f g : Flags) : Prop where
  cf : g.cf = false
  ofl : g.ofl = false
  result : ResultFlags r g
  control : ControlKept f g

/-! ### Shapes of result -/

/-- The instruction completes with the byte `v` in `dst`, and flags as `F` says. -/
def ByteResult (i : Instr) (dst : Rm8) (v : Byte) (F : Flags → Prop) (s : State) : Prop :=
  ∃ t, exec i s = .next t ∧ WroteByte dst v s t ∧ F t.flags

/-- The same for a word; a word at offset 0FFFFH apart. -/
def WordResult (i : Instr) (dst : Rm16) (v : Word) (F : Flags → Prop) (s : State) : Prop :=
  Accessible dst s → ∃ t, exec i s = .next t ∧ WroteWord dst v s t ∧ F t.flags

/-- The instruction completes, and only flags change, as `F` says. -/
def FlagResult (i : Instr) (F : Flags → Prop) (s : State) : Prop :=
  ∃ t, exec i s = .next t ∧ t = { s with flags := t.flags, busLog := t.busLog, freeCount := t.freeCount } ∧ OnlyDataCycles s t ∧
    F t.flags

/-- The eight forms that every operation of `41_arithmetic.md` R261 has. -/
structure TwoOperandForms where
  rm8r8 : Rm8 → Reg8 → Instr
  rm16r16 : Rm16 → Reg16 → Instr
  r8rm8 : Reg8 → Rm8 → Instr
  r16rm16 : Reg16 → Rm16 → Instr
  alImm : Byte → Instr
  axImm : Word → Instr
  rm8Imm : Rm8 → Byte → Instr
  rm16Imm : Rm16 → Word → Instr

/-- All eight forms write `op a b` to the destination `a`, with flags as `F a b` says (R261). -/
def TwoOperandForms.Write (x : TwoOperandForms) (op : (w : Nat) → BitVec w → BitVec w → Flags → BitVec w)
    (F : (w : Nat) → BitVec w → BitVec w → Flags → Flags → Prop) : Prop :=
  ∀ s : State,
    (∀ rm r, ByteResult (x.rm8r8 rm r) rm (op 8 (opByte rm s) (s.reg8 r) s.flags)
      (F 8 (opByte rm s) (s.reg8 r) s.flags) s) ∧
    (∀ rm r, WordResult (x.rm16r16 rm r) rm (op 16 (opWord rm s) (s.reg16 r) s.flags)
      (F 16 (opWord rm s) (s.reg16 r) s.flags) s) ∧
    (∀ r rm, ByteResult (x.r8rm8 r rm) (.reg r) (op 8 (s.reg8 r) (opByte rm s) s.flags)
      (F 8 (s.reg8 r) (opByte rm s) s.flags) s) ∧
    (∀ r rm, Accessible rm s → WordResult (x.r16rm16 r rm) (.reg r) (op 16 (s.reg16 r) (opWord rm s) s.flags)
      (F 16 (s.reg16 r) (opWord rm s) s.flags) s) ∧
    (∀ i, ByteResult (x.alImm i) (.reg .al) (op 8 (s.reg8 .al) i s.flags) (F 8 (s.reg8 .al) i s.flags) s) ∧
    (∀ v, WordResult (x.axImm v) (.reg .ax) (op 16 s.regs.ax v s.flags) (F 16 s.regs.ax v s.flags) s) ∧
    (∀ rm i, ByteResult (x.rm8Imm rm i) rm (op 8 (opByte rm s) i s.flags) (F 8 (opByte rm s) i s.flags) s) ∧
    (∀ rm v, WordResult (x.rm16Imm rm v) rm (op 16 (opWord rm s) v s.flags) (F 16 (opWord rm s) v s.flags) s)

/-- The form with a sign-extended byte immediate (R261, `83`) writes `op a b`. -/
def SignExtendedWrites (x : Rm16 → Byte → Instr) (op : Word → Word → Flags → Word)
    (F : Word → Word → Flags → Flags → Prop) : Prop :=
  ∀ s rm i, WordResult (x rm i) rm (op (opWord rm s) (i.signExtend 16) s.flags)
    (F (opWord rm s) (i.signExtend 16) s.flags) s

/-- The six encodings of a shift or rotate (`42_bit_manipulation.md` R330). -/
structure ShiftForms where
  rm8One : Rm8 → Instr
  rm16One : Rm16 → Instr
  rm8Cl : Rm8 → Instr
  rm16Cl : Rm16 → Instr
  rm8Imm : Rm8 → Byte → Instr
  rm16Imm : Rm16 → Byte → Instr

/-- All six encodings, at an effective count `c` of at least 1, write `op a c CF`, with flags as `F` says (R330). -/
def ShiftForms.Write (x : ShiftForms) (op : (w : Nat) → BitVec w → Nat → Bool → BitVec w)
    (F : (w : Nat) → BitVec w → Nat → Flags → Flags → Prop) : Prop :=
  ∀ s : State,
    (∀ rm, ByteResult (x.rm8One rm) rm (op 8 (opByte rm s) 1 s.flags.cf) (F 8 (opByte rm s) 1 s.flags) s) ∧
    (∀ rm, WordResult (x.rm16One rm) rm (op 16 (opWord rm s) 1 s.flags.cf) (F 16 (opWord rm s) 1 s.flags) s) ∧
    (∀ rm c, (s.reg8 .cl).toNat % 32 = c → c ≠ 0 →
      ByteResult (x.rm8Cl rm) rm (op 8 (opByte rm s) c s.flags.cf) (F 8 (opByte rm s) c s.flags) s) ∧
    (∀ rm c, (s.reg8 .cl).toNat % 32 = c → c ≠ 0 →
      WordResult (x.rm16Cl rm) rm (op 16 (opWord rm s) c s.flags.cf) (F 16 (opWord rm s) c s.flags) s) ∧
    (∀ rm i c, i.toNat % 32 = c → c ≠ 0 →
      ByteResult (x.rm8Imm rm i) rm (op 8 (opByte rm s) c s.flags.cf) (F 8 (opByte rm s) c s.flags) s) ∧
    (∀ rm i c, i.toNat % 32 = c → c ≠ 0 →
      WordResult (x.rm16Imm rm i) rm (op 16 (opWord rm s) c s.flags.cf) (F 16 (opWord rm s) c s.flags) s)

/-- Flags after a shift (R330 to R333): CF and, for a count of 1, OF as given; AF, and OF for other counts, free. -/
structure ShiftFlags {w : Nat} (r : BitVec w) (cf ofl : Bool) (c : Nat) (f g : Flags) : Prop where
  cf : g.cf = cf
  ofl : c = 1 → g.ofl = ofl
  result : ResultFlags r g
  control : ControlKept f g

/-- Flags after a rotate (R330, R334 to R337): only CF and OF change; OF is free for counts other than 1. -/
structure RotateFlags (cf ofl : Bool) (c : Nat) (f g : Flags) : Prop where
  others : g = { f with cf := g.cf, ofl := g.ofl }
  cf : g.cf = cf
  ofl : c = 1 → g.ofl = ofl

/-! ### Stops -/

/-- Each of the instructions stops because a word would cross offset 0FFFFH (`20_memory.md` R83). -/
def StopAtSegmentEnd (s : State) (is : List Instr) : Prop := ∀ i ∈ is, exec i s = .fault .wordPastSegmentEnd

/-- The forms with a word operand in memory, the shifts by CL and by an immediate apart, which access none at a count of 0. -/
def wordMemoryForms (m : Mem) (r : Reg16) (v : Word) (i : Byte) (sr : SReg) : List Instr :=
  [.movRm16R16 (.mem m) r, .movR16Rm16 r (.mem m), .movRm16Imm16 (.mem m) v, .movRm16Sreg (.mem m) sr, .movSregRm16 sr (.mem m),
   .xchgRm16R16 (.mem m) r, .pushRm16 (.mem m), .popRm16 (.mem m), .jmpRm16 (.mem m), .callRm16 (.mem m), .bound r m,
   .addRm16R16 (.mem m) r, .addR16Rm16 r (.mem m), .addRm16Imm16 (.mem m) v, .addRm16Imm8 (.mem m) i,
   .adcRm16R16 (.mem m) r, .adcR16Rm16 r (.mem m), .adcRm16Imm16 (.mem m) v, .adcRm16Imm8 (.mem m) i,
   .subRm16R16 (.mem m) r, .subR16Rm16 r (.mem m), .subRm16Imm16 (.mem m) v, .subRm16Imm8 (.mem m) i,
   .sbbRm16R16 (.mem m) r, .sbbR16Rm16 r (.mem m), .sbbRm16Imm16 (.mem m) v, .sbbRm16Imm8 (.mem m) i,
   .cmpRm16R16 (.mem m) r, .cmpR16Rm16 r (.mem m), .cmpRm16Imm16 (.mem m) v, .cmpRm16Imm8 (.mem m) i,
   .andRm16R16 (.mem m) r, .andR16Rm16 r (.mem m), .andRm16Imm16 (.mem m) v,
   .orRm16R16 (.mem m) r, .orR16Rm16 r (.mem m), .orRm16Imm16 (.mem m) v,
   .xorRm16R16 (.mem m) r, .xorR16Rm16 r (.mem m), .xorRm16Imm16 (.mem m) v,
   .testRm16R16 (.mem m) r, .testRm16Imm16 (.mem m) v, .notRm16 (.mem m), .negRm16 (.mem m), .incRm16 (.mem m), .decRm16 (.mem m),
   .mulRm16 (.mem m), .imulRm16 (.mem m), .imulR16Rm16Imm16 r (.mem m) v, .imulR16Rm16Imm8 r (.mem m) i,
   .divRm16 (.mem m), .idivRm16 (.mem m),
   .rolRm16One (.mem m), .rorRm16One (.mem m), .rclRm16One (.mem m), .rcrRm16One (.mem m), .shlRm16One (.mem m),
   .shrRm16One (.mem m), .sarRm16One (.mem m)]

/-! ### Interrupt entry -/

/-- What an entry of type `n` needs: no pushed word at offset 0FFFFH (`20_memory.md` R83), and no frame over the vector
(`90_conflicts.md` C3). -/
def EntryOk (n : Byte) (s : State) : Prop :=
  s.regs.sp - 2 ≠ 0xFFFF#16 ∧ s.regs.sp - 4 ≠ 0xFFFF#16 ∧ s.regs.sp - 6 ≠ 0xFFFF#16 ∧
    ∀ a ∈ frameBytes s, ¬(4 * n.toNat ≤ a ∧ a < 4 * n.toNat + 4)

/-- The vector of type `n` is in RAM or ROM. -/
def VectorPresent (n : Byte) (s : State) : Prop :=
  ∀ a, 4 * n.toNat ≤ a → a < 4 * n.toNat + 4 → s.region a = none ∨ s.region a = some .rom

/-- The interrupt sequence of type `n` with return offset `ret` takes `s` to `t` (`60_exceptions.md` R510). -/
structure Entered (n : Byte) (ret : Word) (s t : State) : Prop where
  rest : t = { s with
    regs := { s.regs with sp := s.regs.sp - 6 }
    sregs := { s.sregs with cs := t.sregs.cs }
    ip := t.ip
    flags := { s.flags with tf := false, ifl := false }
    mem := t.mem
    stale := []
    devWrites := t.devWrites
    halted := false
    inPrefix := false
    pfx := Prefixes.none
    repeating := none
    busLog := t.busLog
    freeCount := t.freeCount }
  cycles : OnlyDataCycles s t
  vector : VectorPresent n s → t.ip = s.loadWord (4 * n.toNat) ∧ t.sregs.cs = s.loadWord (4 * n.toNat + 2)
  frame : Ram (frameBytes s) s →
    heldWord t s.sregs.ss (s.regs.sp - 6) = ret ∧ heldWord t s.sregs.ss (s.regs.sp - 4) = s.sregs.cs ∧
      flagsOfImage (heldWord t s.sregs.ss (s.regs.sp - 2)) = s.flags
  memory : MemSameBut (frameBytes s) s t

/-- The meaning takes the interrupt of type `n` with return offset `ret`. -/
def Takes (n : Byte) (ret : Word) (r : Result) (s : State) : Prop := ∃ t, r = .next t ∧ Entered n ret s t

/-- The state an entry starts from after the instruction has read its operand: the status flags are free, the rest is kept. -/
def FlagsFree (s u : State) : Prop :=
  u = { s with flags := u.flags, busLog := u.busLog, freeCount := u.freeCount } ∧ OnlyDataCycles s u ∧
    ControlKept s.flags u.flags

end Sys2Proof.Safety
end

