-- ==== Sys2Proof/Certificates/Slice0/Obligations.lean ====
section
/-! DEFINITION. The statements for the provers. Each names the rules of `spec/` it formalises, or says that it rests on the model's own
choice. -/

open Sys2Proof Sys2Proof.Machine Sys2Proof.Safety

/-! ### Reset, decoding, the step -/

/-- `10_state.md` R26, R33, R37 and `70_reset_and_hazards.md` R581: what reset leaves in the segment registers, IP and the nine
flags, and where the first instruction is fetched. -/
def Obligations.ResetValues : Prop :=
  State.reset.sregs = { es := 0, cs := 0xFFFF#16, ss := 0, ds := 0 } ∧ State.reset.ip = 0 ∧
    (∀ u : Word, State.reset.flags.image u &&& 0x0FD5#16 = 0) ∧
    phys State.reset.sregs.cs State.reset.ip = 0xFFFF0

/-- `30_encoding.md` R122 to R133, R150: every well-formed instruction, with every operand, is what its own bytes decode to,
whatever bytes follow. -/
def Obligations.DecodeOfEncode : Prop :=
  ∀ (i : Instr) (rest : List Byte), i.wf = true → decode (encode i ++ rest) = .instr i rest

/-- Decoding loses no bit (R122 to R133, R150): bytes that decode to an instruction are that instruction's encoding, and it is
well-formed. So no two byte sequences mean the same instruction. -/
def Obligations.EncodeOfDecode : Prop :=
  ∀ (bs rest : List Byte) (i : Instr), decode bs = .instr i rest → i.wf = true ∧ bs = encode i ++ rest

/-- Words written out from the encodings of `40_data_transfer.md` R201, R205, R235, `41_arithmetic.md` R262, R276,
`42_bit_manipulation.md` R331, `43_string.md` R370, `44_program_transfer.md` R435, R437 and `45_processor_control.md` R487: a
sanity check. -/
def Obligations.DecodeWords : Prop :=
  decode [0x8B, 0xC3] = .instr (.movR16Rm16 .ax (.reg .bx)) [] ∧
    decode [0x89, 0x46, 0xFE] = .instr (.movRm16R16 (.mem (.disp8 .bp 0xFE)) .ax) [] ∧
    decode [0xA1, 0x00, 0x20] = .instr (.movAxMoffs16 0x2000) [] ∧
    decode [0xC8, 0x08, 0x00, 0x00] = .instr (.enter 8 0) [] ∧
    decode [0x05, 0x01, 0x00] = .instr (.addAxImm16 1) [] ∧
    decode [0x6B, 0xC3, 0x0A] = .instr (.imulR16Rm16Imm8 .ax (.reg .bx) 0x0A) [] ∧
    decode [0xC1, 0xE0, 0x04] = .instr (.shlRm16Imm8 (.reg .ax) 4) [] ∧
    decode [0xA4] = .instr .movsb [] ∧
    decode [0xE8, 0x0D, 0x00] = .instr (.callNear 0x000D) [] ∧
    decode [0x9A, 0x34, 0x12, 0x78, 0x56] = .instr (.callFar 0x1234 0x5678) [] ∧
    decode [0xF0, 0x87, 0x07] = .instr .lock [0x87, 0x07]

/-- `30_encoding.md` R170: its table of undefined encodings, whatever bytes follow, decodes to no instruction. -/
def Obligations.UndefinedEncodings : Prop :=
  ∀ (b : Byte) (rest : List Byte),
    (∀ op ∈ [0x0F#8, 0x63, 0x64, 0x65, 0x66, 0x67, 0xD6, 0xF1], decode (op :: b :: rest) = .undefined) ∧
      (∀ op ∈ [0x8C#8, 0x8E], 4 ≤ b.toNat / 8 % 8 → decode (op :: b :: rest) = .undefined) ∧
      (b.toNat / 8 % 8 = 1 → decode (0x8E#8 :: b :: rest) = .undefined) ∧
      (∀ op ∈ [0x8F#8, 0xC6, 0xC7], b.toNat / 8 % 8 ≠ 0 → decode (op :: b :: rest) = .undefined) ∧
      (∀ op ∈ [0xC0#8, 0xC1, 0xD0, 0xD1, 0xD2, 0xD3], b.toNat / 8 % 8 = 6 → decode (op :: b :: rest) = .undefined) ∧
      (∀ op ∈ [0xF6#8, 0xF7], b.toNat / 8 % 8 = 1 → decode (op :: b :: rest) = .undefined) ∧
      (2 ≤ b.toNat / 8 % 8 → decode (0xFE#8 :: b :: rest) = .undefined) ∧
      (b.toNat / 8 % 8 = 7 → decode (0xFF#8 :: b :: rest) = .undefined) ∧
      (∀ op ∈ [0x8D#8, 0xC4, 0xC5, 0x62], 192 ≤ b.toNat → decode (op :: b :: rest) = .undefined) ∧
      (192 ≤ b.toNat → b.toNat / 8 % 8 = 3 ∨ b.toNat / 8 % 8 = 5 → decode (0xFF#8 :: b :: rest) = .undefined)

/-- A step runs the instruction whose bytes stand at CS:IP (`10_state.md` R31, `30_encoding.md` R141): IP moved past it, with what
`finish` adds after it; and with no input scheduled and TF clear, exactly the meaning, after which the prefixes of a complete
instruction are dropped. -/
def Obligations.StepRunsInstruction : Prop :=
  ∀ (s : State) (i : Instr), i.wf = true → dueInterrupt s = none → s.halted = false → s.repeating = none → s.stale = [] →
    repMisused i s = false →
    (∀ k (h : k < (encode i).length), s.loadByte (phys s.sregs.cs (s.ip + BitVec.ofNat 16 k)) = (encode i)[k]) →
    step s = finish s.flags.tf (exec i (begin (encode i).length s)) ∧
      (s.flags.tf = false → ∀ t, exec i (begin (encode i).length s) = .next t → t.env = [] → step s = .next (retire t))

/-- `20_memory.md` R100: a code byte that no store replaced while it may have been queued is fetched from memory; another is the
byte in memory or one of the bytes replaced (`92` D9). A store into the QUEUE_BYTES bytes from CS:IP on adds the byte it replaces
to these, a store elsewhere does not, and a transfer of control clears them. That both outcomes are taken, where R100 and D9 offer
both or a refusal, which replaced bytes are kept and for how long, and the window that adds to them, are the model's choice (log
19). -/
def Obligations.FetchSeesMemoryOrStale : Prop :=
  ∀ (s : State) (a : Nat),
    ((∀ c ∈ s.stale, c.1 ≠ a) → fetchByte a s = (s.loadByte a, s)) ∧
      ((fetchByte a s).1 = s.loadByte a ∨ (a, (fetchByte a s).1) ∈ s.stale) ∧
      (∀ v, s.region a = none → (s.storeByte a v).mem = Memory.write s.mem a v ∧
        (s.storeByte a v).stale = if s.inQueueWindow a then (a, Memory.read s.mem a) :: s.stale else s.stale) ∧
      (∀ v, s.region a ≠ none → (s.storeByte a v).stale = s.stale) ∧
      (s.inQueueWindow a = true ↔ ∃ k, k < queueBytes ∧ a = phys s.sregs.cs (s.ip + BitVec.ofNat 16 k)) ∧
      ∀ t, (s.jump t).stale = []

/-- Log 6 (`92` D3, the option MODEL_INVALID_OPCODE; `60_exceptions.md` R528): bytes that decode to an undefined encoding raise
type 6 with the address of the first byte, prefixes included. The model's choice. -/
def Obligations.UndefinedOpcodeRaises : Prop :=
  ∀ s : State, dueInterrupt s = none → s.halted = false → s.repeating = none → s.flags.tf = false → s.stale = [] → s.env = [] →
    decode (fetch s).1 = .undefined → EntryOk 6 s →
      Takes 6 (if s.inPrefix then s.startIp else s.ip) (step s) (begin 0 s)

/-! ### Invariants -/

/-- The state after reset meets the invariant. -/
def Obligations.ResetInv : Prop :=
  Inv State.reset

/-- Every step from a state that meets the invariant leads to one: memory stays in canonical form, prefixes are in force only
inside an instruction (`30_encoding.md` R140), and a repeated string stands at its prefix with elements left (`43_string.md` R361,
R362). -/
def Obligations.StepKeepsInv : Prop :=
  ∀ s t : State, Inv s → step s = .next t → Inv t

/-- `10_state.md` R27: of the well-formed instructions, CS is written by nothing but far transfers, interrupts and exceptions, and
IRET. -/
def Obligations.OnlyTransfersWriteCs : Prop :=
  ∀ (i : Instr) (s t : State), i.wf = true → exec i s = .next t → t.sregs.cs ≠ s.sregs.cs →
    (∃ a b, i = .callFar a b) ∨ (∃ m, i = .callMem32 m) ∨ (∃ a b, i = .jmpFar a b) ∨ (∃ m, i = .jmpMem32 m) ∨
      i = .retFar ∨ (∃ v, i = .retFarImm16 v) ∨ i = .int3 ∨ (∃ n, i = .intImm8 n) ∨ i = .into ∨ i = .iret ∨
      (∃ r m, i = .bound r m) ∨ (∃ x y rm, i = .esc x y rm) ∨ (∃ rm, i = .divRm8 rm) ∨ (∃ rm, i = .divRm16 rm) ∨
      (∃ rm, i = .idivRm8 rm) ∨ (∃ rm, i = .idivRm16 rm)

/-- `10_state.md` R36: TF is set through POPF and IRET only. -/
def Obligations.OnlyPopfAndIretSetTf : Prop :=
  ∀ (i : Instr) (s t : State), exec i s = .next t → s.flags.tf = false → t.flags.tf = true → i = .popf ∨ i = .iret

/-! ### Memory -/

/-- `20_memory.md` R80: a word is stored low byte first, the high byte at the next physical address, and reads back. -/
def Obligations.WordsAreLittleEndian : Prop :=
  ∀ (s : State) (a : Nat) (v : Word), a < memSize → Ram [a, nextAddr a] s →
    (s.storeWord a v).loadByte a = v.setWidth 8 ∧ (s.storeWord a v).loadByte (nextAddr a) = (v >>> 8).setWidth 8 ∧
      (s.storeWord a v).loadWord a = v ∧ MemSameBut [a, nextAddr a] s (s.storeWord a v)

/-- `20_memory.md` R83 (`92` D4): every form that accesses a word stops when the word stands at offset 0FFFFH: a memory operand, a
direct address, a pushed or popped word, a string element, a word of the frame of ENTER or of an interrupt; and so does every form
that reads a far pointer which would cross that offset. So does every exception and interrupt whose frame would hold such a word
(R83, `60_exceptions.md` R510): ESC's type 7, the divide error's type 0, BOUND's type 5, and the entry of any other type. -/
def Obligations.WordPastSegmentEndStops : Prop :=
  (∀ (s : State) (m : Mem) (r : Reg16) (v off seg : Word) (i l : Byte) (sr : SReg) (rm : Rm16),
    (ea m s = 0xFFFF#16 → StopAtSegmentEnd s (wordMemoryForms m r v i sr)) ∧
      (ea m s + 2 = 0xFFFF#16 → StopAtSegmentEnd s [.bound r m]) ∧
      (ea m s = 0xFFFF#16 → (s.reg8 .cl).toNat % 32 ≠ 0 →
        StopAtSegmentEnd s [.rolRm16Cl (.mem m), .rorRm16Cl (.mem m), .rclRm16Cl (.mem m), .rcrRm16Cl (.mem m),
          .shlRm16Cl (.mem m), .shrRm16Cl (.mem m), .sarRm16Cl (.mem m)]) ∧
      (ea m s = 0xFFFF#16 → i.toNat % 32 ≠ 0 →
        StopAtSegmentEnd s [.rolRm16Imm8 (.mem m) i, .rorRm16Imm8 (.mem m) i, .rclRm16Imm8 (.mem m) i, .rcrRm16Imm8 (.mem m) i,
          .shlRm16Imm8 (.mem m) i, .shrRm16Imm8 (.mem m) i, .sarRm16Imm8 (.mem m) i]) ∧
      StopAtSegmentEnd s [.movAxMoffs16 0xFFFF, .movMoffs16Ax 0xFFFF] ∧
      (0xFFFC#16 < ea m s → StopAtSegmentEnd s [.lds r m, .les r m, .jmpMem32 m, .callMem32 m]) ∧
      (s.regs.sp = 1 → StopAtSegmentEnd s
        [.pushR16 r, .pushRm16 rm, .pushEs, .pushCs, .pushSs, .pushDs, .pushImm16 v, .pushImm8 i, .pushf, .pusha, .callNear v,
          .callRm16 rm, .callFar off seg, .callMem32 m, .enter v l]) ∧
      (s.regs.sp = 3 → StopAtSegmentEnd s [.callFar off seg, .callMem32 m]) ∧
      ((∃ k, k < 8 ∧ s.regs.sp - BitVec.ofNat 16 (2 * k + 2) = 0xFFFF#16) → StopAtSegmentEnd s [.pusha]) ∧
      ((∃ k, k ≤ l.toNat % 32 ∧ s.regs.sp - BitVec.ofNat 16 (2 * k + 2) = 0xFFFF#16) → StopAtSegmentEnd s [.enter v l]) ∧
      ((∃ k, k + 1 < l.toNat % 32 ∧ s.regs.bp - BitVec.ofNat 16 (2 * k + 2) = 0xFFFF#16) → StopAtSegmentEnd s [.enter v l]) ∧
      (∀ n, s.regs.sp = 1 ∨ s.regs.sp = 3 ∨ s.regs.sp = 5 → frameOverlaps n s = false →
        StopAtSegmentEnd s [.intImm8 n] ∧ (n = 3 → StopAtSegmentEnd s [.int3]) ∧
          (n = 4 → s.flags.ofl = true → StopAtSegmentEnd s [.into])) ∧
      (s.regs.sp = 0xFFFF#16 → StopAtSegmentEnd s
        [.popR16 r, .popRm16 rm, .popEs, .popSs, .popDs, .popf, .popa, .retNear, .retNearImm16 v, .retFar, .retFarImm16 v, .iret]) ∧
      (s.regs.sp = 0xFFFD#16 → StopAtSegmentEnd s [.retFar, .retFarImm16 v, .iret]) ∧
      (s.regs.sp = 0xFFFB#16 → StopAtSegmentEnd s [.iret]) ∧
      ((∃ k, k < 8 ∧ s.regs.sp + BitVec.ofNat 16 (2 * k) = 0xFFFF#16) → StopAtSegmentEnd s [.popa]) ∧
      (s.regs.bp = 0xFFFF#16 → StopAtSegmentEnd s [.leave]) ∧
      (s.pfx.rep = none ∨ (s.pfx.rep = some .rep ∧ s.regs.cx ≠ 0) →
        (s.regs.si = 0xFFFF#16 → StopAtSegmentEnd s [.movsw, .cmpsw, .lodsw, .outsw]) ∧
          (s.regs.di = 0xFFFF#16 → StopAtSegmentEnd s [.movsw, .cmpsw, .stosw, .scasw]) ∧
          (s.regs.di = 0xFFFF#16 → (s.regs.dx ≤ 0xF6#16 ∨ 0x100#16 ≤ s.regs.dx) → s.regs.dx ≠ 0xFFFF#16 →
            StopAtSegmentEnd s [.insw])) ∧
      (s.pfx.rep = some .repne → s.regs.cx ≠ 0 →
        (s.regs.si = 0xFFFF#16 → StopAtSegmentEnd s [.cmpsw]) ∧ (s.regs.di = 0xFFFF#16 → StopAtSegmentEnd s [.cmpsw, .scasw]))) ∧
  (∀ s : State, s.regs.sp = 1 ∨ s.regs.sp = 3 ∨ s.regs.sp = 5 →
    (∀ n, frameOverlaps n s = false → enter n s = .error (.fault .wordPastSegmentEnd)) ∧
      (∀ x y rm, frameOverlaps 7 s = false → s.numericsMode = false ∨ s.et = true ∨ Config.bus16 = false →
        StopAtSegmentEnd s [.esc x y rm]) ∧
      (∀ rm, frameOverlaps 0 s = false → opByte rm s = 0 ∨ 0xFF < s.regs.ax.toNat / (opByte rm s).toNat →
        StopAtSegmentEnd s [.divRm8 rm]) ∧
      (∀ rm, frameOverlaps 0 s = false → Accessible rm s →
        opWord rm s = 0 ∨ 0xFFFF < (s.regs.dx.toNat * 2 ^ 16 + s.regs.ax.toNat) / (opWord rm s).toNat →
        StopAtSegmentEnd s [.divRm16 rm]) ∧
      (∀ rm q, frameOverlaps 0 s = false → q = s.regs.ax.toInt.tdiv (opByte rm s).toInt →
        opByte rm s = 0 ∨ q < -128 ∨ 127 < q → StopAtSegmentEnd s [.idivRm8 rm]) ∧
      (∀ rm q, frameOverlaps 0 s = false → Accessible rm s →
        q = (s.regs.dx ++ s.regs.ax : BitVec 32).toInt.tdiv (opWord rm s).toInt →
        opWord rm s = 0 ∨ q < -32768 ∨ 32767 < q → StopAtSegmentEnd s [.idivRm16 rm]) ∧
      ∀ r m lo hi, frameOverlaps 5 s = false → lo = s.loadWord (phys (memSeg m s) (ea m s)) →
        hi = s.loadWord (phys (memSeg m s) (ea m s + 2)) → (s.reg16 r).toInt < lo.toInt ∨ hi.toInt < (s.reg16 r).toInt →
        StopAtSegmentEnd s [.bound r m])

/-- `20_memory.md` R91, R96, `92` D5, D10: a store to ROM or to absent memory is dropped, one to a device is recorded, and the
Peripheral Control Block is a device when it stands in memory space; a MOV of a byte to memory is one such store, its bus cycle
logged whatever stands there, and a MOV of a word, or a push, is two, low byte first (R80). That the writes to devices are kept in
a list of their own is the model's choice (log 20). -/
def Obligations.MemoryMapWrites : Prop :=
  ∀ (s : State) (a : Nat) (v : Byte),
    (s.region a = if s.pcbInMemory = true ∧ s.pcbBase ≤ a ∧ a < s.pcbBase + 256 then some .device else regionAt a s.memMap) ∧
      (s.region a = some .rom ∨ s.region a = some .absent → s.storeByte a v = s) ∧
      (s.region a = some .device → s.storeByte a v = { s with devWrites := s.devWrites ++ [(a, v)] }) ∧
      (s.region a = some .rom ∨ s.region a = none → s.loadByte a = Memory.read s.mem a) ∧
      (∀ m r i, a = phys (memSeg m s) (ea m s) → (i = .movRm8R8 (.mem m) r ∧ v = s.reg8 r ∨ i = .movRm8Imm8 (.mem m) v) →
        exec i s = .next { s.storeByte a v with busLog := s.busLog ++ [.memWrite false a (v.setWidth 16)] }) ∧
      (∀ m r i (w : Word), ea m s ≠ 0xFFFF#16 → a = phys (memSeg m s) (ea m s) →
        (i = .movRm16R16 (.mem m) r ∧ w = s.reg16 r ∨ i = .movRm16Imm16 (.mem m) w) →
        Completes (exec i s) s ((s.storeByte a (w.setWidth 8)).storeByte (nextAddr a) ((w >>> 8).setWidth 8))) ∧
      ∀ (w : Word) (u : State), s.regs.sp - 2 ≠ 0xFFFF#16 → a = phys s.sregs.ss (s.regs.sp - 2) →
        u = { s with regs := { s.regs with sp := s.regs.sp - 2 } } →
        Completes (exec (.pushImm16 w) s) s ((u.storeByte a (w.setWidth 8)).storeByte (nextAddr a) ((w >>> 8).setWidth 8))

/-- `20_memory.md` R82, R105, R107: a byte is one bus cycle, and so is a word at an even address of the 16-bit bus; another word
is two byte cycles, the byte at the address first. An interrupt entry reads its vector before it pushes (`90_conflicts.md` C3).
The status codes are those of Table 3-1. What is logged is log 44. -/
def Obligations.BusCycles : Prop :=
  ([CycleType.interruptAcknowledge, .ioRead, .ioWrite, .halt, .instructionPrefetch, .memoryRead, .memoryWrite, .idle].map
      CycleType.status = [0, 1, 2, 3, 4, 5, 6, 7]) ∧
    (∀ (s : State) (m : Mem) (a : Nat), a = phys (memSeg m s) (ea m s) →
      (∀ r, ∃ t, exec (.movR8Rm8 r (.mem m)) s = .next t ∧
        t.busLog = s.busLog ++ [.memRead false a ((s.loadByte a).setWidth 16)]) ∧
      (∀ r, ∃ t, exec (.movRm8R8 (.mem m) r) s = .next t ∧
        t.busLog = s.busLog ++ [.memWrite false a ((s.reg8 r).setWidth 16)]) ∧
      (ea m s ≠ 0xFFFF#16 → ∀ r, ∃ t, exec (.movR16Rm16 r (.mem m)) s = .next t ∧
        (Config.bus16 = true → a % 2 = 0 → t.busLog = s.busLog ++ [.memRead true a (s.loadWord a)]) ∧
        (Config.bus16 = false ∨ a % 2 = 1 → t.busLog = s.busLog ++ [.memRead false a ((s.loadByte a).setWidth 16),
          .memRead false (nextAddr a) ((s.loadByte (nextAddr a)).setWidth 16)])) ∧
      (ea m s ≠ 0xFFFF#16 → ∀ r, ∃ t, exec (.movRm16R16 (.mem m) r) s = .next t ∧
        (Config.bus16 = true → a % 2 = 0 → t.busLog = s.busLog ++ [.memWrite true a (s.reg16 r)]) ∧
        (Config.bus16 = false ∨ a % 2 = 1 → t.busLog = s.busLog ++
          [.memWrite false a (((s.reg16 r).setWidth 8 : Byte).setWidth 16),
            .memWrite false (nextAddr a) ((s.reg16 r) >>> 8)]))) ∧
    ∀ (n : Byte) (s t : State), enter n s = .ok t → ∃ es, (∀ e ∈ es, e.cycleType = .memoryWrite) ∧
      t.busLog = s.busLog ++ s.wordReadCycles (4 * n.toNat) ++ s.wordReadCycles (4 * n.toNat + 2) ++ es

/-! ### Data transfer -/

/-- `40_data_transfer.md` R201, R202, R204, R205: MOV between registers, memory and immediates; no flag changes.
`40_data_transfer.md` R203, `60_exceptions.md` R531: MOV from a segment register, and MOV to one, after which neither an interrupt
nor the single-step trap is taken. -/
def Obligations.MovForms : Prop :=
  (∀ s : State,
    (∀ rm r, ByteResult (.movRm8R8 rm r) rm (s.reg8 r) (· = s.flags) s) ∧
      (∀ rm r, WordResult (.movRm16R16 rm r) rm (s.reg16 r) (· = s.flags) s) ∧
      (∀ r rm, ByteResult (.movR8Rm8 r rm) (.reg r) (opByte rm s) (· = s.flags) s) ∧
      (∀ r rm, Accessible rm s → WordResult (.movR16Rm16 r rm) (.reg r) (opWord rm s) (· = s.flags) s) ∧
      (∀ r i, ByteResult (.movR8Imm8 r i) (.reg r) i (· = s.flags) s) ∧
      (∀ r v, WordResult (.movR16Imm16 r v) (.reg r) v (· = s.flags) s) ∧
      (∀ rm i, ByteResult (.movRm8Imm8 rm i) rm i (· = s.flags) s) ∧
      (∀ rm v, WordResult (.movRm16Imm16 rm v) rm v (· = s.flags) s) ∧
      (∀ a, ByteResult (.movAlMoffs8 a) (.reg .al) (s.loadByte (phys (s.sreg (s.pfx.seg.getD .ds)) a)) (· = s.flags) s) ∧
      (∀ a, a ≠ 0xFFFF#16 →
        WordResult (.movAxMoffs16 a) (.reg .ax) (s.loadWord (phys (s.sreg (s.pfx.seg.getD .ds)) a)) (· = s.flags) s) ∧
      (∀ a, ByteResult (.movMoffs8Al a) (.mem (.direct a)) (s.reg8 .al) (· = s.flags) s) ∧
      (∀ a, WordResult (.movMoffs16Ax a) (.mem (.direct a)) s.regs.ax (· = s.flags) s)) ∧
  (∀ (s : State) (sr : SReg) (rm : Rm16), Accessible rm s →
    WordResult (.movRm16Sreg rm sr) rm (s.sreg sr) (· = s.flags) s ∧
      (sr ≠ .cs → ∃ t, exec (.movSregRm16 sr rm) s = .next t ∧
        t = { s with sregs := t.sregs, inhibitNext := true, busLog := t.busLog } ∧ OnlyDataCycles s t ∧ t.sreg sr = opWord rm s ∧
        (∀ x, x ≠ sr → t.sreg x = s.sreg x) ∧ dueInterrupt t = none ∧ ∀ tf0, stepTrapDue tf0 t = false))

/-- `40_data_transfer.md` R210, R212, R213, R214: what each PUSH form pushes. PUSH SP pushes the decremented SP (`92` D16); the
long form of PUSH SP pushes the old or the decremented value, a free choice (log 14). -/
def Obligations.PushForms : Prop :=
  ∀ s : State, s.regs.sp - 2 ≠ 0xFFFF#16 →
    (∀ r, r ≠ .sp → ∃ t, exec (.pushR16 r) s = .next t ∧ Pushed (s.reg16 r) s t) ∧
      (∃ t, exec (.pushR16 .sp) s = .next t ∧ Pushed (s.regs.sp - 2) s t) ∧
      (∀ rm, rm ≠ .reg .sp → Accessible rm s → ∃ t, exec (.pushRm16 rm) s = .next t ∧ Pushed (opWord rm s) s t) ∧
      (∃ t v, exec (.pushRm16 (.reg .sp)) s = .next t ∧ Pushed v s t ∧ (v = s.regs.sp ∨ v = s.regs.sp - 2)) ∧
      (∀ v, ∃ t, exec (.pushImm16 v) s = .next t ∧ Pushed v s t) ∧
      (∀ i, ∃ t, exec (.pushImm8 i) s = .next t ∧ Pushed (i.signExtend 16) s t) ∧
      (∃ t, exec .pushEs s = .next t ∧ Pushed s.sregs.es s t) ∧
      (∃ t, exec .pushCs s = .next t ∧ Pushed s.sregs.cs s t) ∧
      (∃ t, exec .pushSs s = .next t ∧ Pushed s.sregs.ss s t) ∧
      (∃ t, exec .pushDs s = .next t ∧ Pushed s.sregs.ds s t)

/-- `40_data_transfer.md` R211, R215, R216: POP to a register (for SP the popped word stays), to memory, and to a segment register
with the interrupt shadow of `60_exceptions.md` R531. -/
def Obligations.PopForms : Prop :=
  ∀ s : State, s.regs.sp ≠ 0xFFFF#16 →
    (∀ r, ∃ t, exec (.popR16 r) s = .next t ∧ t = { s with regs := t.regs, busLog := t.busLog } ∧
      OnlyDataCycles s t ∧ t.reg16 r = stackTop s ∧
      (r ≠ .sp → t.regs.sp = s.regs.sp + 2) ∧ ∀ x, x ≠ r → x ≠ .sp → t.reg16 x = s.reg16 x) ∧
      (∀ rm, Accessible rm s → ∃ t, exec (.popRm16 rm) s = .next t ∧
        WroteWord rm (stackTop s) (s.setReg16 .sp (s.regs.sp + 2)) t ∧ t.flags = s.flags) ∧
      Completes (exec .popEs s) s { s with regs := { s.regs with sp := s.regs.sp + 2 }
                                           sregs := { s.sregs with es := stackTop s }
                                           inhibitNext := true } ∧
      Completes (exec .popSs s) s { s with regs := { s.regs with sp := s.regs.sp + 2 }
                                           sregs := { s.sregs with ss := stackTop s }
                                           inhibitNext := true } ∧
      Completes (exec .popDs s) s { s with regs := { s.regs with sp := s.regs.sp + 2 }
                                           sregs := { s.sregs with ds := stackTop s }
                                           inhibitNext := true }

/-- `40_data_transfer.md` R217, R218: PUSHA stores the eight words, SP's old value among them; POPA loads seven of them back and
discards SP's. `40_data_transfer.md` R218: PUSHA then POPA leaves every register unchanged. -/
def Obligations.PushaAndPopa : Prop :=
  (∀ s : State,
    ((∀ k : Nat, k < 8 → s.regs.sp - BitVec.ofNat 16 (2 * k + 2) ≠ 0xFFFF#16) →
      ∃ t, exec .pusha s = .next t ∧
        t = { s with regs := { s.regs with sp := s.regs.sp - 16 }, mem := t.mem, stale := t.stale, devWrites := t.devWrites,
                     busLog := t.busLog } ∧
        OnlyDataCycles s t ∧
        MemSameBut ((List.range 16).map fun k => phys s.sregs.ss (s.regs.sp - 16 + BitVec.ofNat 16 k)) s t ∧
        (Ram ((List.range 16).map fun k => phys s.sregs.ss (s.regs.sp - 16 + BitVec.ofNat 16 k)) s →
          (List.range 8).map (fun k => heldWord t s.sregs.ss (s.regs.sp - 16 + BitVec.ofNat 16 (2 * k))) =
            [s.regs.di, s.regs.si, s.regs.bp, s.regs.sp, s.regs.bx, s.regs.dx, s.regs.cx, s.regs.ax])) ∧
      ((∀ k : Nat, k < 8 → s.regs.sp + BitVec.ofNat 16 (2 * k) ≠ 0xFFFF#16) →
        Completes (exec .popa s) s { s with
          regs :=
            { di := stackWord s 0, si := stackWord s 2, bp := stackWord s 4, sp := s.regs.sp + 16, bx := stackWord s 8,
              dx := stackWord s 10, cx := stackWord s 12, ax := stackWord s 14 } })) ∧
  (∀ s t : State, Ram ((List.range 16).map fun k => phys s.sregs.ss (s.regs.sp - 16 + BitVec.ofNat 16 k)) s →
    exec .pusha s = .next t → ∃ u, exec .popa t = .next u ∧ u.regs = s.regs ∧ u.sregs = s.sregs ∧ u.flags = s.flags)

/-- `40_data_transfer.md` R220, R221: XCHG puts the old register value in the operand and the old operand in the register. -/
def Obligations.XchgSwaps : Prop :=
  ∀ s : State,
    (∀ rm r, ∃ t, exec (.xchgRm8R8 rm r) s = .next t ∧ t.reg8 r = opByte rm s ∧
      (Ram (bytesOf8 rm s) s → ∀ m, rm = .mem m → Memory.read t.mem (phys (memSeg m s) (ea m s)) = s.reg8 r) ∧
      (∀ x, rm = .reg x → t.reg8 x = s.reg8 r) ∧ (∀ h, h ≠ r → rm ≠ .reg h → t.reg8 h = s.reg8 h) ∧
      (t.regs.sp = s.regs.sp ∧ t.regs.bp = s.regs.bp ∧ t.regs.si = s.regs.si ∧ t.regs.di = s.regs.di) ∧
      MemSameBut (bytesOf8 rm s) s t ∧ t = { s with regs := t.regs, mem := t.mem, stale := t.stale, devWrites := t.devWrites,
                                                    busLog := t.busLog } ∧
      OnlyDataCycles s t) ∧
      (∀ rm r, Accessible rm s → ∃ t, exec (.xchgRm16R16 rm r) s = .next t ∧ t.reg16 r = opWord rm s ∧
        (Ram (bytesOf16 rm s) s → ∀ m, rm = .mem m → heldWord t (memSeg m s) (ea m s) = s.reg16 r) ∧
        (∀ x, rm = .reg x → t.reg16 x = s.reg16 r) ∧ (∀ x, x ≠ r → rm ≠ .reg x → t.reg16 x = s.reg16 x) ∧
        MemSameBut (bytesOf16 rm s) s t ∧ t = { s with regs := t.regs, mem := t.mem, stale := t.stale, devWrites := t.devWrites,
                                                       busLog := t.busLog } ∧
      OnlyDataCycles s t) ∧
      (∀ r, ∃ t, exec (.xchgAxR16 r) s = .next t ∧ t = { s with regs := t.regs } ∧ t.regs.ax = s.reg16 r ∧
        t.reg16 r = s.regs.ax ∧ ∀ x, x ≠ r → x ≠ .ax → t.reg16 x = s.reg16 x)

/-- `40_data_transfer.md` R222, R230: XLAT replaces AL by a byte of the table; LEA loads the effective address.
`40_data_transfer.md` R231, R232, `20_memory.md` R81: LDS and LES load a register from the offset word and DS or ES from the
segment word above it. -/
def Obligations.XlatLeaAndFarPointers : Prop :=
  ((∀ rest, decode (0xD7#8 :: rest) = .instr .xlat rest) ∧
    (∀ s : State,
    ByteResult .xlat (.reg .al)
        (s.loadByte (phys (s.sreg (s.pfx.seg.getD .ds)) (s.regs.bx + (s.reg8 .al).setWidth 16))) (· = s.flags) s ∧
      ∀ r m, WordResult (.lea r m) (.reg r) (ea m s) (· = s.flags) s)) ∧
  (∀ (s : State) (r : Reg16) (m : Mem), ea m s ≤ 0xFFFC#16 →
    ∃ t u, exec (.lds r m) s = .next t ∧ exec (.les r m) s = .next u ∧
      t.reg16 r = s.loadWord (phys (memSeg m s) (ea m s)) ∧ (∀ x, x ≠ r → t.reg16 x = s.reg16 x) ∧ u.regs = t.regs ∧
      t = { s with regs := t.regs
                   sregs := { s.sregs with ds := s.loadWord (phys (memSeg m s) (ea m s + 2)) }
                   busLog := t.busLog } ∧ OnlyDataCycles s t ∧
      u = { s with regs := t.regs
                   sregs := { s.sregs with es := s.loadWord (phys (memSeg m s) (ea m s + 2)) }
                   busLog := u.busLog } ∧ OnlyDataCycles s u)

/-- `30_encoding.md` R130, R131: the effective address of every memory form, modulo 2^16, and SS as the default segment exactly
when BP is a component, unless an override replaces it (`20_memory.md` R75, R76). -/
def Obligations.EffectiveAddress : Prop :=
  ∀ (s : State) (a d : Word) (x : Byte),
    (let base := fun b : EaBase => match b with
      | .bxSi => s.regs.bx.toNat + s.regs.si.toNat
      | .bxDi => s.regs.bx.toNat + s.regs.di.toNat
      | .bpSi => s.regs.bp.toNat + s.regs.si.toNat
      | .bpDi => s.regs.bp.toNat + s.regs.di.toNat
      | .si => s.regs.si.toNat
      | .di => s.regs.di.toNat
      | .bp => s.regs.bp.toNat
      | .bx => s.regs.bx.toNat
    ea (.direct a) s = a ∧ ∀ b, (ea (.plain b) s).toNat = base b % 2 ^ 16 ∧
      (ea (.disp8 b x) s).toNat = (base b + (x.signExtend 16).toNat) % 2 ^ 16 ∧
      (ea (.disp16 b d) s).toNat = (base b + d.toNat) % 2 ^ 16) ∧
      ∀ m, memSeg m s = match s.pfx.seg with
        | some sr => s.sreg sr
        | none =>
          match m with
          | .plain b => if b ∈ [EaBase.bpSi, .bpDi, .bp] then s.sregs.ss else s.sregs.ds
          | .disp8 b _ => if b ∈ [EaBase.bpSi, .bpDi, .bp] then s.sregs.ss else s.sregs.ds
          | .disp16 b _ => if b ∈ [EaBase.bpSi, .bpDi, .bp] then s.sregs.ss else s.sregs.ds
          | .direct _ => s.sregs.ds

/-- `40_data_transfer.md` R225, `20_memory.md` R90: IN reads the device at the port into AL or AX; a word is one cycle at an even
port of the 16-bit bus, else the byte at the port and then the byte at the next port. That each cycle takes one value of `ioIn` or
the oracle and leaves one event is the model's choice (log 10, `92` D23). `40_data_transfer.md` R226, R90: OUT writes AL or AX to
the port, in the cycles of R90; nothing else changes. The events of the log are the model's record of them (log 10, log 44, D23).
-/
def Obligations.PortInputAndOutput : Prop :=
  (∀ s : State,
    (∀ port i, (port ≤ 0xF7#16 ∨ 0x100#16 ≤ port) →
      (∃ p : Byte, i = .inAlImm8 p ∧ port = p.setWidth 16) ∨ (i = .inAlDx ∧ port = s.regs.dx) →
      ∃ t v, v = (s.deviceValue false port).setWidth 8 ∧ exec i s = .next t ∧ t.reg8 .al = v ∧
        t = { s with regs := { s.regs with ax := t.regs.ax }, ioIn := s.ioIn.tail,
                     busLog := s.busLog ++ [.input false port (v.setWidth 16)] } ∧ t.reg8 .ah = s.reg8 .ah) ∧
      (∀ port i, (port ≤ 0xF6#16 ∨ 0x100#16 ≤ port) → port ≠ 0xFFFF#16 →
        (∃ p : Byte, i = .inAxImm8 p ∧ port = p.setWidth 16) ∨ (i = .inAxDx ∧ port = s.regs.dx) →
        (Config.bus16 = true → port.toNat % 2 = 0 →
          exec i s = .next { s with regs := { s.regs with ax := s.deviceValue true port }, ioIn := s.ioIn.tail,
                                    busLog := s.busLog ++ [.input true port (s.deviceValue true port)] }) ∧
          (Config.bus16 = false ∨ port.toNat % 2 = 1 → ∀ (lo hi : Byte) (u : State),
            lo = (s.deviceValue false port).setWidth 8 →
            u = { s with ioIn := s.ioIn.tail, busLog := s.busLog ++ [.input false port (lo.setWidth 16)] } →
            hi = (u.deviceValue false (port + 1)).setWidth 8 →
            exec i s = .next { u with regs := { s.regs with ax := hi ++ lo }, ioIn := u.ioIn.tail,
                                      busLog := u.busLog ++ [.input false (port + 1) (hi.setWidth 16)] }))) ∧
  (∀ s : State,
    (∀ port i, (port ≤ 0xF7#16 ∨ 0x100#16 ≤ port) →
      (∃ p : Byte, i = .outImm8Al p ∧ port = p.setWidth 16) ∨ (i = .outDxAl ∧ port = s.regs.dx) →
      exec i s = .next { s with busLog := s.busLog ++ [.output false port ((s.reg8 .al).setWidth 16)] }) ∧
      (∀ port i, (port ≤ 0xF6#16 ∨ 0x100#16 ≤ port) → port ≠ 0xFFFF#16 →
        (∃ p : Byte, i = .outImm8Ax p ∧ port = p.setWidth 16) ∨ (i = .outDxAx ∧ port = s.regs.dx) →
        (Config.bus16 = true → port.toNat % 2 = 0 →
          exec i s = .next { s with busLog := s.busLog ++ [.output true port s.regs.ax] }) ∧
          (Config.bus16 = false ∨ port.toNat % 2 = 1 → exec i s = .next { s with
            busLog := s.busLog ++ [.output false port ((s.reg8 .al).setWidth 16),
              .output false (port + 1) ((s.reg8 .ah).setWidth 16)] })))

/-- `93_implementation_defined.md` U8, `92` D29: the ports 0F8H to 0FFH are refused, for a word at port 0F7H too (log 9), and a
word at port 0FFFFH stops, for IN, OUT, INS and OUTS. -/
def Obligations.PortsWithoutMeaningStop : Prop :=
  ∀ s : State, s.pfx.rep = none →
    (0xF8#16 ≤ s.regs.dx → s.regs.dx ≤ 0xFF#16 →
      ∀ i ∈ [Instr.inAlDx, .inAxDx, .outDxAl, .outDxAx, .insb, .insw, .outsb], exec i s = .refused .reservedPort) ∧
      (0xF7#16 ≤ s.regs.dx → s.regs.dx ≤ 0xFF#16 →
        (∀ i ∈ [Instr.inAxDx, .outDxAx, .insw], exec i s = .refused .reservedPort) ∧
          (s.regs.si ≠ 0xFFFF#16 → exec .outsw s = .refused .reservedPort)) ∧
      (∀ p : Byte, 0xF8#8 ≤ p →
        ∀ i ∈ [Instr.inAlImm8 p, .inAxImm8 p, .outImm8Al p, .outImm8Ax p], exec i s = .refused .reservedPort) ∧
      (∀ i ∈ [Instr.inAxImm8 0xF7, .outImm8Ax 0xF7], exec i s = .refused .reservedPort) ∧
      (s.regs.dx = 0xFFFF#16 → (∀ i ∈ [Instr.inAxDx, .outDxAx, .insw], exec i s = .fault .wordPastLastPort) ∧
        (s.regs.si ≠ 0xFFFF#16 → exec .outsw s = .fault .wordPastLastPort))

/-- `40_data_transfer.md` R235: ENTER saves BP, copies the words of the old display, makes BP the new frame and moves SP by the
copies and the local storage; the words it stores lie between the new and the old top of the stack. -/
def Obligations.EnterMakesFrame : Prop :=
  ∀ (s : State) (v : Word) (l : Byte) (n : Nat), n = l.toNat % 32 →
    (∀ k, k ≤ n → s.regs.sp - BitVec.ofNat 16 (2 * k + 2) ≠ 0xFFFF#16) →
    (∀ k, k + 1 < n → s.regs.bp - BitVec.ofNat 16 (2 * k + 2) ≠ 0xFFFF#16) →
    ∃ t, exec (.enter v l) s = .next t ∧
      t = { s with regs := { s.regs with bp := s.regs.sp - 2, sp := s.regs.sp - BitVec.ofNat 16 (2 * n + 2) - v },
                   mem := t.mem, stale := t.stale, devWrites := t.devWrites,
                     busLog := t.busLog } ∧
      OnlyDataCycles s t ∧
      MemSameBut ((List.range (2 * n + 2)).map fun k => phys s.sregs.ss (s.regs.sp - BitVec.ofNat 16 (k + 1))) s t ∧
      (Ram ((List.range (2 * n + 2)).map fun k => phys s.sregs.ss (s.regs.sp - BitVec.ofNat 16 (k + 1))) s →
        heldWord t s.sregs.ss (s.regs.sp - 2) = s.regs.bp ∧
          (n ≠ 0 → heldWord t s.sregs.ss (s.regs.sp - BitVec.ofNat 16 (2 * n + 2)) = s.regs.sp - 2) ∧
          ((∀ k, 0 < k → k < n → ∀ a ∈ wordBytes s.sregs.ss (s.regs.bp - BitVec.ofNat 16 (2 * k)),
              a ∉ (List.range (2 * n + 2)).map fun j => phys s.sregs.ss (s.regs.sp - BitVec.ofNat 16 (j + 1))) →
            ∀ k, 0 < k → k < n → heldWord t s.sregs.ss (s.regs.sp - BitVec.ofNat 16 (2 * k + 2)) =
              s.loadWord (phys s.sregs.ss (s.regs.bp - BitVec.ofNat 16 (2 * k)))))

/-- `40_data_transfer.md` R236: LEAVE, and that it undoes an ENTER of any level. -/
def Obligations.LeaveUndoesEnter : Prop :=
  (∀ s : State, s.regs.bp ≠ 0xFFFF#16 →
    Completes (exec .leave s) s { s with regs := { s.regs with bp := s.loadWord (phys s.sregs.ss s.regs.bp), sp := s.regs.bp + 2 } }) ∧
    ∀ (s t : State) (v : Word) (l : Byte), exec (.enter v l) s = .next t →
      Ram (wordBytes s.sregs.ss (s.regs.sp - 2)) s →
      ∃ u, exec .leave t = .next u ∧ u.regs = s.regs ∧ u.sregs = s.sregs ∧ u.flags = s.flags

/-- `40_data_transfer.md` R250 to R253, `10_state.md` R34, R38: LAHF, SAHF, PUSHF and POPF; the reserved bits of a stored image
are free and those of a loaded one are discarded. -/
def Obligations.FlagTransfers : Prop :=
  (∀ rest, decode (0x9F#8 :: rest) = .instr .lahf rest ∧ decode (0x9E#8 :: rest) = .instr .sahf rest ∧
    decode (0x9C#8 :: rest) = .instr .pushf rest ∧ decode (0x9D#8 :: rest) = .instr .popf rest) ∧
    (∀ s : State,
    (∃ t, exec .lahf s = .next t ∧ t = { s with regs := { s.regs with ax := t.regs.ax }, freeCount := t.freeCount } ∧
      t.reg8 .al = s.reg8 .al ∧ (t.reg8 .ah).getLsbD 7 = s.flags.sf ∧ (t.reg8 .ah).getLsbD 6 = s.flags.zf ∧
      (t.reg8 .ah).getLsbD 4 = s.flags.af ∧ (t.reg8 .ah).getLsbD 2 = s.flags.pf ∧ (t.reg8 .ah).getLsbD 0 = s.flags.cf) ∧
      exec .sahf s = .next { s with flags := { s.flags with
        sf := (s.reg8 .ah).getLsbD 7, zf := (s.reg8 .ah).getLsbD 6, af := (s.reg8 .ah).getLsbD 4,
        pf := (s.reg8 .ah).getLsbD 2, cf := (s.reg8 .ah).getLsbD 0 } } ∧
      (s.regs.sp - 2 ≠ 0xFFFF#16 → ∃ t v, exec .pushf s = .next t ∧ Pushed v s t ∧ v.getLsbD 0 = s.flags.cf ∧
        v.getLsbD 2 = s.flags.pf ∧ v.getLsbD 4 = s.flags.af ∧ v.getLsbD 6 = s.flags.zf ∧ v.getLsbD 7 = s.flags.sf ∧
        v.getLsbD 8 = s.flags.tf ∧ v.getLsbD 9 = s.flags.ifl ∧ v.getLsbD 10 = s.flags.df ∧ v.getLsbD 11 = s.flags.ofl) ∧
      (s.regs.sp ≠ 0xFFFF#16 → Completes (exec .popf s) s { s with
        regs := { s.regs with sp := s.regs.sp + 2 }
        flags :=
          { cf := (stackTop s).getLsbD 0, pf := (stackTop s).getLsbD 2, af := (stackTop s).getLsbD 4,
            zf := (stackTop s).getLsbD 6, sf := (stackTop s).getLsbD 7, tf := (stackTop s).getLsbD 8,
            ifl := (stackTop s).getLsbD 9, df := (stackTop s).getLsbD 10, ofl := (stackTop s).getLsbD 11 } }))

/-! ### Arithmetic -/

/-- `41_arithmetic.md` R262, R263: ADD and ADC in all nine forms, with the six flags of `add_W` (`00_scope.md` R14).
`41_arithmetic.md` R267, R268: SUB and SBB in all nine forms, with the six flags of `sub_W` (`00_scope.md` R14). -/
def Obligations.AddAndSubtract : Prop :=
  ((TwoOperandForms.mk .addRm8R8 .addRm16R16 .addR8Rm8 .addR16Rm16 .addAlImm8 .addAxImm16 .addRm8Imm8 .addRm16Imm16).Write
      (fun _ a b _ => a + b) (fun _ a b f => AddFlags a b false f) ∧
    SignExtendedWrites .addRm16Imm8 (fun a b _ => a + b) (fun a b f => AddFlags a b false f) ∧
    (TwoOperandForms.mk .adcRm8R8 .adcRm16R16 .adcR8Rm8 .adcR16Rm16 .adcAlImm8 .adcAxImm16 .adcRm8Imm8 .adcRm16Imm16).Write
      (fun w a b f => a + b + BitVec.ofNat w f.cf.toNat) (fun _ a b f => AddFlags a b f.cf f) ∧
    SignExtendedWrites .adcRm16Imm8 (fun a b f => a + b + BitVec.ofNat 16 f.cf.toNat) (fun a b f => AddFlags a b f.cf f)) ∧
  ((TwoOperandForms.mk .subRm8R8 .subRm16R16 .subR8Rm8 .subR16Rm16 .subAlImm8 .subAxImm16 .subRm8Imm8 .subRm16Imm16).Write
      (fun _ a b _ => a - b) (fun _ a b f => SubFlags a b false f) ∧
    SignExtendedWrites .subRm16Imm8 (fun a b _ => a - b) (fun a b f => SubFlags a b false f) ∧
    (TwoOperandForms.mk .sbbRm8R8 .sbbRm16R16 .sbbR8Rm8 .sbbR16Rm16 .sbbAlImm8 .sbbAxImm16 .sbbRm8Imm8 .sbbRm16Imm16).Write
      (fun w a b f => a - b - BitVec.ofNat w f.cf.toNat) (fun _ a b f => SubFlags a b f.cf f) ∧
    SignExtendedWrites .sbbRm16Imm8 (fun a b f => a - b - BitVec.ofNat 16 f.cf.toNat) (fun a b f => SubFlags a b f.cf f))

/-- `41_arithmetic.md` R271: CMP writes no operand, and its flags are those of SUB. -/
def Obligations.CmpOnlySetsFlags : Prop :=
  ∀ s : State,
    (∀ rm r, FlagResult (.cmpRm8R8 rm r) (SubFlags (opByte rm s) (s.reg8 r) false s.flags) s) ∧
      (∀ rm r, Accessible rm s → FlagResult (.cmpRm16R16 rm r) (SubFlags (opWord rm s) (s.reg16 r) false s.flags) s) ∧
      (∀ r rm, FlagResult (.cmpR8Rm8 r rm) (SubFlags (s.reg8 r) (opByte rm s) false s.flags) s) ∧
      (∀ r rm, Accessible rm s → FlagResult (.cmpR16Rm16 r rm) (SubFlags (s.reg16 r) (opWord rm s) false s.flags) s) ∧
      (∀ i, FlagResult (.cmpAlImm8 i) (SubFlags (s.reg8 .al) i false s.flags) s) ∧
      (∀ v, FlagResult (.cmpAxImm16 v) (SubFlags s.regs.ax v false s.flags) s) ∧
      (∀ rm i, FlagResult (.cmpRm8Imm8 rm i) (SubFlags (opByte rm s) i false s.flags) s) ∧
      (∀ rm v, Accessible rm s → FlagResult (.cmpRm16Imm16 rm v) (SubFlags (opWord rm s) v false s.flags) s) ∧
      (∀ rm i, Accessible rm s →
        FlagResult (.cmpRm16Imm8 rm i) (SubFlags (opWord rm s) (i.signExtend 16) false s.flags) s)

/-- `10_state.md` R35: OF after `add_W` and `sub_W` says that the signed result does not fit, SF with OF gives the sign of the
true difference, and CF after `sub_W` the unsigned order: what the conditional jumps after CMP rest on (`44_program_transfer.md`
R405). -/
def Obligations.OverflowIsSignedRange : Prop :=
  ∀ (w : Nat) (a b : BitVec w) (f : Flags), 0 < w →
    ((addW a b false f).2.ofl = true ↔ ¬(-(2 ^ (w - 1) : Int) ≤ a.toInt + b.toInt ∧ a.toInt + b.toInt < 2 ^ (w - 1))) ∧
      ((subW a b false f).2.ofl = true ↔ ¬(-(2 ^ (w - 1) : Int) ≤ a.toInt - b.toInt ∧ a.toInt - b.toInt < 2 ^ (w - 1))) ∧
      (Cond.holds .l (subW a b false f).2 = true ↔ a.toInt < b.toInt) ∧
      (Cond.holds .g (subW a b false f).2 = true ↔ b.toInt < a.toInt) ∧
      (Cond.holds .b (subW a b false f).2 = true ↔ a.toNat < b.toNat) ∧
      (Cond.holds .a (subW a b false f).2 = true ↔ b.toNat < a.toNat) ∧
      (Cond.holds .e (subW a b false f).2 = true ↔ a = b)

/-- `41_arithmetic.md` R264, R269: INC and DEC in their register, byte and word forms; CF is not changed. `41_arithmetic.md` R270:
NEG, with CF set unless the operand is 0 and OF set for the most negative number. -/
def Obligations.IncDecNeg : Prop :=
  (∀ s : State,
    let Inc := fun (w : Nat) (a : BitVec w) (g : Flags) => g.ofl = decide (a.toNat = 2 ^ (w - 1) - 1) ∧
      g.af = decide (a.toNat % 16 = 15) ∧ ResultFlags (a + 1#w) g ∧ g.cf = s.flags.cf ∧ ControlKept s.flags g
    let Dec := fun (w : Nat) (a : BitVec w) (g : Flags) => g.ofl = decide (a.toNat = 2 ^ (w - 1)) ∧
      g.af = decide (a.toNat % 16 = 0) ∧ ResultFlags (a - 1#w) g ∧ g.cf = s.flags.cf ∧ ControlKept s.flags g
    (∀ r, WordResult (.incR16 r) (.reg r) (s.reg16 r + 1) (Inc 16 (s.reg16 r)) s) ∧
      (∀ rm, ByteResult (.incRm8 rm) rm (opByte rm s + 1) (Inc 8 (opByte rm s)) s) ∧
      (∀ rm, WordResult (.incRm16 rm) rm (opWord rm s + 1) (Inc 16 (opWord rm s)) s) ∧
      (∀ r, WordResult (.decR16 r) (.reg r) (s.reg16 r - 1) (Dec 16 (s.reg16 r)) s) ∧
      (∀ rm, ByteResult (.decRm8 rm) rm (opByte rm s - 1) (Dec 8 (opByte rm s)) s) ∧
      ∀ rm, WordResult (.decRm16 rm) rm (opWord rm s - 1) (Dec 16 (opWord rm s)) s) ∧
  (∀ s : State,
    let F := fun (w : Nat) (a : BitVec w) (g : Flags) => g.cf = decide (a.toNat ≠ 0) ∧ g.ofl = decide (a.toNat = 2 ^ (w - 1)) ∧
      g.af = decide (a.toNat % 16 ≠ 0) ∧ ResultFlags (-a) g ∧ ControlKept s.flags g
    (∀ rm, ByteResult (.negRm8 rm) rm (-(opByte rm s)) (F 8 (opByte rm s)) s) ∧
      ∀ rm, WordResult (.negRm16 rm) rm (-(opWord rm s)) (F 16 (opWord rm s)) s)

/-- `41_arithmetic.md` R274: MUL, the exact unsigned product, with CF and OF set when its upper half is not 0. `41_arithmetic.md`
R275, R276: IMUL, the signed product in one- and three-operand forms, with CF and OF set when the lower half is not the whole. -/
def Obligations.Multiplication : Prop :=
  (∀ s : State,
    (∀ rm, ∃ t, exec (.mulRm8 rm) s = .next t ∧
      t = { s with regs := { s.regs with ax := t.regs.ax }, flags := t.flags, busLog := t.busLog,
                     freeCount := t.freeCount } ∧ OnlyDataCycles s t ∧
      t.regs.ax.toNat = (s.reg8 .al).toNat * (opByte rm s).toNat ∧ t.flags.cf = decide (t.reg8 .ah ≠ 0) ∧
      t.flags.ofl = t.flags.cf ∧ ControlKept s.flags t.flags) ∧
      ∀ rm, Accessible rm s → ∃ t, exec (.mulRm16 rm) s = .next t ∧
        t = { s with regs := { s.regs with ax := t.regs.ax, dx := t.regs.dx }, flags := t.flags, busLog := t.busLog,
                     freeCount := t.freeCount } ∧ OnlyDataCycles s t ∧
        t.regs.dx.toNat * 2 ^ 16 + t.regs.ax.toNat = s.regs.ax.toNat * (opWord rm s).toNat ∧
        t.flags.cf = decide (t.regs.dx ≠ 0) ∧ t.flags.ofl = t.flags.cf ∧ ControlKept s.flags t.flags) ∧
  (∀ s : State,
    (∀ rm, ∃ t, exec (.imulRm8 rm) s = .next t ∧
      t = { s with regs := { s.regs with ax := t.regs.ax }, flags := t.flags, busLog := t.busLog,
                     freeCount := t.freeCount } ∧ OnlyDataCycles s t ∧
      t.regs.ax.toInt = (s.reg8 .al).toInt * (opByte rm s).toInt ∧
      t.flags.cf = decide (t.regs.ax ≠ (t.reg8 .al).signExtend 16) ∧ t.flags.ofl = t.flags.cf ∧
      ControlKept s.flags t.flags) ∧
      (∀ rm, Accessible rm s → ∃ t, exec (.imulRm16 rm) s = .next t ∧
        t = { s with regs := { s.regs with ax := t.regs.ax, dx := t.regs.dx }, flags := t.flags, busLog := t.busLog,
                     freeCount := t.freeCount } ∧ OnlyDataCycles s t ∧
        (t.regs.dx ++ t.regs.ax : BitVec 32).toInt = s.regs.ax.toInt * (opWord rm s).toInt ∧
        t.flags.cf = decide ((t.regs.dx ++ t.regs.ax : BitVec 32) ≠ t.regs.ax.signExtend 32) ∧ t.flags.ofl = t.flags.cf ∧
        ControlKept s.flags t.flags) ∧
      ∀ r rm v i j, (i = .imulR16Rm16Imm16 r rm v ∨ (i = .imulR16Rm16Imm8 r rm j ∧ v = j.signExtend 16)) → Accessible rm s →
        ∃ t, exec i s = .next t ∧ t = { s with regs := t.regs, flags := t.flags, busLog := t.busLog,
                                               freeCount := t.freeCount } ∧ OnlyDataCycles s t ∧
          t.reg16 r = BitVec.ofInt 16 ((opWord rm s).toInt * v.toInt) ∧ (∀ x, x ≠ r → t.reg16 x = s.reg16 x) ∧
          t.flags.cf = decide (¬(-32768 ≤ (opWord rm s).toInt * v.toInt ∧ (opWord rm s).toInt * v.toInt ≤ 32767)) ∧
          t.flags.ofl = t.flags.cf ∧ ControlKept s.flags t.flags)

/-- `41_arithmetic.md` R278: DIV delivers quotient and remainder when the quotient fits; the flags are undefined.
`41_arithmetic.md` R279: IDIV truncates toward zero, the remainder has the dividend's sign; stated for the quotients that fit for
certain. -/
def Obligations.Division : Prop :=
  (∀ s : State,
    (∀ rm q r, opByte rm s ≠ 0 → s.regs.ax.toNat = q * (opByte rm s).toNat + r → r < (opByte rm s).toNat → q ≤ 0xFF →
      ∃ t, exec (.divRm8 rm) s = .next t ∧ (t.reg8 .al).toNat = q ∧ (t.reg8 .ah).toNat = r ∧
        t = { s with regs := { s.regs with ax := t.regs.ax }, flags := t.flags, busLog := t.busLog,
                     freeCount := t.freeCount } ∧ OnlyDataCycles s t ∧
        ControlKept s.flags t.flags) ∧
      ∀ rm q r, Accessible rm s → opWord rm s ≠ 0 →
        s.regs.dx.toNat * 2 ^ 16 + s.regs.ax.toNat = q * (opWord rm s).toNat + r → r < (opWord rm s).toNat → q ≤ 0xFFFF →
        ∃ t, exec (.divRm16 rm) s = .next t ∧ t.regs.ax.toNat = q ∧ t.regs.dx.toNat = r ∧
          t = { s with regs := { s.regs with ax := t.regs.ax, dx := t.regs.dx }, flags := t.flags, busLog := t.busLog,
                       freeCount := t.freeCount } ∧ OnlyDataCycles s t ∧
          ControlKept s.flags t.flags) ∧
  (∀ s : State,
    (∀ rm, opByte rm s ≠ 0 → -127 ≤ s.regs.ax.toInt.tdiv (opByte rm s).toInt → s.regs.ax.toInt.tdiv (opByte rm s).toInt ≤ 127 →
      ∃ t, exec (.idivRm8 rm) s = .next t ∧ (t.reg8 .al).toInt = s.regs.ax.toInt.tdiv (opByte rm s).toInt ∧
        (t.reg8 .ah).toInt = s.regs.ax.toInt - (opByte rm s).toInt * s.regs.ax.toInt.tdiv (opByte rm s).toInt ∧
        t = { s with regs := { s.regs with ax := t.regs.ax }, flags := t.flags, busLog := t.busLog,
                     freeCount := t.freeCount } ∧ OnlyDataCycles s t ∧
        ControlKept s.flags t.flags) ∧
      ∀ rm n, n = (s.regs.dx ++ s.regs.ax : BitVec 32).toInt → Accessible rm s → opWord rm s ≠ 0 →
        -32767 ≤ n.tdiv (opWord rm s).toInt → n.tdiv (opWord rm s).toInt ≤ 32767 →
        ∃ t, exec (.idivRm16 rm) s = .next t ∧ t.regs.ax.toInt = n.tdiv (opWord rm s).toInt ∧
          t.regs.dx.toInt = n - (opWord rm s).toInt * n.tdiv (opWord rm s).toInt ∧
          t = { s with regs := { s.regs with ax := t.regs.ax, dx := t.regs.dx }, flags := t.flags, busLog := t.busLog,
                       freeCount := t.freeCount } ∧ OnlyDataCycles s t ∧
          ControlKept s.flags t.flags)

/-- `41_arithmetic.md` R278, R279, `60_exceptions.md` R524: the divide error is type 0 with AX and DX kept; DIVERR_SAVES_NEXT_IP
says whether the saved offset is the next instruction's or that of the first byte of this one (open, log 11).
`44_program_transfer.md` R453, `60_exceptions.md` R527: BOUND does nothing inside the inclusive signed bounds, and raises type 5
outside; BOUND_SAVES_NEXT_IP says which offset is saved (open, log 11). -/
def Obligations.DivideAndBoundErrors : Prop :=
  (∀ (s : State) (ret : Word), ret = (if Config.diverrSavesNextIp then s.ip else s.startIp) →
    (∀ rm, EntryOk 0 s → (opByte rm s = 0 ∨ 0xFF < s.regs.ax.toNat / (opByte rm s).toNat) →
      ∃ u, FlagsFree s u ∧ Takes 0 ret (exec (.divRm8 rm) s) u) ∧
      (∀ rm, Accessible rm s → EntryOk 0 s →
        (opWord rm s = 0 ∨ 0xFFFF < (s.regs.dx.toNat * 2 ^ 16 + s.regs.ax.toNat) / (opWord rm s).toNat) →
        ∃ u, FlagsFree s u ∧ Takes 0 ret (exec (.divRm16 rm) s) u) ∧
      (∀ rm q, EntryOk 0 s → q = s.regs.ax.toInt.tdiv (opByte rm s).toInt → (opByte rm s = 0 ∨ q < -128 ∨ 127 < q) →
        ∃ u, FlagsFree s u ∧ Takes 0 ret (exec (.idivRm8 rm) s) u) ∧
      ∀ rm q, Accessible rm s → EntryOk 0 s → q = (s.regs.dx ++ s.regs.ax : BitVec 32).toInt.tdiv (opWord rm s).toInt →
        (opWord rm s = 0 ∨ q < -32768 ∨ 32767 < q) → ∃ u, FlagsFree s u ∧ Takes 0 ret (exec (.idivRm16 rm) s) u) ∧
  (∀ (s : State) (r : Reg16) (m : Mem) (lo hi ret : Word), ea m s ≠ 0xFFFF#16 → ea m s + 2 ≠ 0xFFFF#16 →
    lo = s.loadWord (phys (memSeg m s) (ea m s)) → hi = s.loadWord (phys (memSeg m s) (ea m s + 2)) →
    ret = (if Config.boundSavesNextIp then s.ip else s.startIp) →
    (lo.toInt ≤ (s.reg16 r).toInt → (s.reg16 r).toInt ≤ hi.toInt → Completes (exec (.bound r m) s) s s) ∧
      ((s.reg16 r).toInt < lo.toInt ∨ hi.toInt < (s.reg16 r).toInt → EntryOk 5 s →
        ∃ u, u = { s with busLog := u.busLog } ∧ OnlyDataCycles s u ∧ Takes 5 ret (exec (.bound r m) s) u))

/-- `41_arithmetic.md` R266, R273: DAA and DAS; OF is free. That the formulas hold for every AL, AF and CF is the model's choice
(log 35, PRESUMED; `92` D25, `93` U4): the rules call inputs that are no sum or difference of decimal digits unpredictable.
`41_arithmetic.md` R265, R272: AAA and AAS; OF, SF, ZF and PF are free. That they hold for every AL and AF is the model's choice
too (log 35, PRESUMED; `92` D25, `93` U4). -/
def Obligations.DecimalAndAsciiAdjust : Prop :=
  (∀ s : State,
    let low := decide (9 < (s.reg8 .al).toNat % 16) || s.flags.af
    let high := decide (0x99 < (s.reg8 .al).toNat) || s.flags.cf
    let F := fun (r : Byte) (g : Flags) => g.af = low ∧ g.cf = high ∧ ResultFlags r g ∧ ControlKept s.flags g
    let by6 : Nat := if low then 6 else 0
    let by60 : Nat := if high then 0x60 else 0
    ByteResult .daa (.reg .al) (BitVec.ofNat 8 ((s.reg8 .al).toNat + by6 + by60))
        (F (BitVec.ofNat 8 ((s.reg8 .al).toNat + by6 + by60))) s ∧
      ByteResult .das (.reg .al) (BitVec.ofInt 8 ((s.reg8 .al).toNat - by6 - by60))
        (F (BitVec.ofInt 8 ((s.reg8 .al).toNat - by6 - by60))) s) ∧
  (∀ s : State,
    let adj := decide (9 < (s.reg8 .al).toNat % 16) || s.flags.af
    let Same := fun t : State => t = { s with regs := { s.regs with ax := t.regs.ax }, flags := t.flags, freeCount := t.freeCount } ∧
      t.flags.af = adj ∧ t.flags.cf = adj ∧ ControlKept s.flags t.flags
    (∃ t, exec .aaa s = .next t ∧ Same t ∧
      (t.reg8 .al).toNat = (if adj then (s.reg8 .al).toNat + 6 else (s.reg8 .al).toNat) % 16 ∧
      (t.reg8 .ah).toNat = (if adj then (s.reg8 .ah).toNat + 1 else (s.reg8 .ah).toNat) % 256) ∧
      ∃ t, exec .aas s = .next t ∧ Same t ∧
        (t.reg8 .al).toNat = (if adj then (s.reg8 .al).toNat + 10 else (s.reg8 .al).toNat) % 16 ∧
        (t.reg8 .ah).toNat = (if adj then (s.reg8 .ah).toNat + 255 else (s.reg8 .ah).toNat) % 256)

/-- `41_arithmetic.md` R277, R280, R281, R282: AAM, AAD, CBW, CWD. That the formulas of AAM and AAD hold for every AL and AH,
decimal digits or not, is the model's choice (log 35, PRESUMED; `92` D25, `93` U4). -/
def Obligations.AsciiMulDivAndExtend : Prop :=
  (∀ rest, decode (0xD4#8 :: 0x0A#8 :: rest) = .instr .aam rest ∧
    decode (0xD5#8 :: 0x0A#8 :: rest) = .instr .aad rest ∧ decode (0x98#8 :: rest) = .instr .cbw rest ∧
    decode (0x99#8 :: rest) = .instr .cwd rest) ∧
    (∀ s : State,
    (∃ t, exec .aam s = .next t ∧ t = { s with regs := { s.regs with ax := t.regs.ax }, flags := t.flags, freeCount := t.freeCount } ∧
      (t.reg8 .ah).toNat = (s.reg8 .al).toNat / 10 ∧ (t.reg8 .al).toNat = (s.reg8 .al).toNat % 10 ∧
      ResultFlags (t.reg8 .al) t.flags ∧ ControlKept s.flags t.flags) ∧
      (∃ t, exec .aad s = .next t ∧ t = { s with regs := { s.regs with ax := t.regs.ax }, flags := t.flags, freeCount := t.freeCount } ∧
        (t.reg8 .al).toNat = ((s.reg8 .ah).toNat * 10 + (s.reg8 .al).toNat) % 256 ∧ t.reg8 .ah = 0 ∧
        ResultFlags (t.reg8 .al) t.flags ∧ ControlKept s.flags t.flags) ∧
      (∃ t, exec .cbw s = .next t ∧ t = { s with regs := { s.regs with ax := t.regs.ax } } ∧
        t.regs.ax.toInt = (s.reg8 .al).toInt) ∧
      ∃ t, exec .cwd s = .next t ∧ t = { s with regs := { s.regs with dx := t.regs.dx } } ∧
        (t.regs.dx ++ t.regs.ax : BitVec 32).toInt = s.regs.ax.toInt)

/-! ### Bit manipulation -/

/-- `42_bit_manipulation.md` R322, R323, R324: AND, OR and XOR in their eight forms; CF and OF cleared, AF free.
`42_bit_manipulation.md` R321, R325: TEST sets the flags of AND and alters neither operand; NOT inverts every bit and changes no
flag. -/
def Obligations.LogicInstructions : Prop :=
  ((TwoOperandForms.mk .andRm8R8 .andRm16R16 .andR8Rm8 .andR16Rm16 .andAlImm8 .andAxImm16 .andRm8Imm8 .andRm16Imm16).Write
      (fun _ a b _ => a &&& b) (fun _ a b f => LogicFlags (a &&& b) f) ∧
    (TwoOperandForms.mk .orRm8R8 .orRm16R16 .orR8Rm8 .orR16Rm16 .orAlImm8 .orAxImm16 .orRm8Imm8 .orRm16Imm16).Write
      (fun _ a b _ => a ||| b) (fun _ a b f => LogicFlags (a ||| b) f) ∧
    (TwoOperandForms.mk .xorRm8R8 .xorRm16R16 .xorR8Rm8 .xorR16Rm16 .xorAlImm8 .xorAxImm16 .xorRm8Imm8 .xorRm16Imm16).Write
      (fun _ a b _ => a ^^^ b) (fun _ a b f => LogicFlags (a ^^^ b) f)) ∧
  (∀ s : State,
    (∀ rm r, FlagResult (.testRm8R8 rm r) (LogicFlags (opByte rm s &&& s.reg8 r) s.flags) s) ∧
      (∀ rm r, Accessible rm s → FlagResult (.testRm16R16 rm r) (LogicFlags (opWord rm s &&& s.reg16 r) s.flags) s) ∧
      (∀ i, FlagResult (.testAlImm8 i) (LogicFlags (s.reg8 .al &&& i) s.flags) s) ∧
      (∀ v, FlagResult (.testAxImm16 v) (LogicFlags (s.regs.ax &&& v) s.flags) s) ∧
      (∀ rm i, FlagResult (.testRm8Imm8 rm i) (LogicFlags (opByte rm s &&& i) s.flags) s) ∧
      (∀ rm v, Accessible rm s → FlagResult (.testRm16Imm16 rm v) (LogicFlags (opWord rm s &&& v) s.flags) s) ∧
      (∀ rm, ByteResult (.notRm8 rm) rm (~~~(opByte rm s)) (· = s.flags) s) ∧
      ∀ rm, WordResult (.notRm16 rm) rm (~~~(opWord rm s)) (· = s.flags) s)

/-- `42_bit_manipulation.md` R330 to R333: SHL, SHR and SAR by 1, CL and an immediate, the count masked to five bits and not 0:
result, CF, and OF for a count of 1. -/
def Obligations.Shifts : Prop :=
  (ShiftForms.mk .shlRm8One .shlRm16One .shlRm8Cl .shlRm16Cl .shlRm8Imm8 .shlRm16Imm8).Write (fun _ a c _ => a <<< c)
      (fun w a c f => ShiftFlags (a <<< c) (decide (c ≤ w) && a.getLsbD (w - c))
        ((a <<< c).getLsbD (w - 1) ^^ a.getLsbD (w - 1)) c f) ∧
    (ShiftForms.mk .shrRm8One .shrRm16One .shrRm8Cl .shrRm16Cl .shrRm8Imm8 .shrRm16Imm8).Write (fun _ a c _ => a >>> c)
      (fun w a c f => ShiftFlags (a >>> c) (a.getLsbD (c - 1)) (a.getLsbD (w - 1)) c f) ∧
    (ShiftForms.mk .sarRm8One .sarRm16One .sarRm8Cl .sarRm16Cl .sarRm8Imm8 .sarRm16Imm8).Write (fun _ a c _ => a.sshiftRight c)
      (fun w a c f => ShiftFlags (a.sshiftRight c) (if c < w then a.getLsbD (c - 1) else a.getLsbD (w - 1)) false c f)

/-- `42_bit_manipulation.md` R330, R334, R335: ROL and ROR, a rotation by the count modulo the width, with CF the bit that moved
last. `42_bit_manipulation.md` R330, R336, R337: RCL and RCR rotate CF and the operand together, by the count modulo the width
plus one. -/
def Obligations.Rotates : Prop :=
  ((ShiftForms.mk .rolRm8One .rolRm16One .rolRm8Cl .rolRm16Cl .rolRm8Imm8 .rolRm16Imm8).Write
      (fun w a c _ => a.rotateLeft (c % w))
      (fun w a c f => RotateFlags ((a.rotateLeft (c % w)).getLsbD 0)
        ((a.rotateLeft (c % w)).getLsbD (w - 1) ^^ (a.rotateLeft (c % w)).getLsbD 0) c f) ∧
    (ShiftForms.mk .rorRm8One .rorRm16One .rorRm8Cl .rorRm16Cl .rorRm8Imm8 .rorRm16Imm8).Write
      (fun w a c _ => a.rotateRight (c % w))
      (fun w a c f => RotateFlags ((a.rotateRight (c % w)).getLsbD (w - 1))
        ((a.rotateRight (c % w)).getLsbD (w - 1) ^^ (a.rotateRight (c % w)).getLsbD (w - 2)) c f)) ∧
  ((ShiftForms.mk .rclRm8One .rclRm16One .rclRm8Cl .rclRm16Cl .rclRm8Imm8 .rclRm16Imm8).Write
      (fun w a c cf => ((BitVec.cons cf a).rotateLeft (c % (w + 1))).setWidth w)
      (fun w a c f => RotateFlags (((BitVec.cons f.cf a).rotateLeft (c % (w + 1))).getLsbD w)
        (((BitVec.cons f.cf a).rotateLeft (c % (w + 1))).getLsbD (w - 1) ^^
          ((BitVec.cons f.cf a).rotateLeft (c % (w + 1))).getLsbD w) c f) ∧
    (ShiftForms.mk .rcrRm8One .rcrRm16One .rcrRm8Cl .rcrRm16Cl .rcrRm8Imm8 .rcrRm16Imm8).Write
      (fun w a c cf => ((BitVec.cons cf a).rotateRight (c % (w + 1))).setWidth w)
      (fun w a c f => RotateFlags (((BitVec.cons f.cf a).rotateRight (c % (w + 1))).getLsbD w)
        (((BitVec.cons f.cf a).rotateRight (c % (w + 1))).getLsbD (w - 1) ^^
          ((BitVec.cons f.cf a).rotateRight (c % (w + 1))).getLsbD (w - 2)) c f))

/-- `42_bit_manipulation.md` R330: with a masked count of 0 the operand and all flags are unchanged (that a word at offset 0FFFFH
is then not read is log 13). -/
def Obligations.ShiftByZero : Prop :=
  ∀ (s : State) (rm8 : Rm8) (rm16 : Rm16) (i : Byte),
    (i.toNat % 32 = 0 → ∀ x ∈ [Instr.rolRm8Imm8 rm8 i, .rorRm8Imm8 rm8 i, .rclRm8Imm8 rm8 i, .rcrRm8Imm8 rm8 i,
      .shlRm8Imm8 rm8 i, .shrRm8Imm8 rm8 i, .sarRm8Imm8 rm8 i, .rolRm16Imm8 rm16 i, .rorRm16Imm8 rm16 i, .rclRm16Imm8 rm16 i,
      .rcrRm16Imm8 rm16 i, .shlRm16Imm8 rm16 i, .shrRm16Imm8 rm16 i, .sarRm16Imm8 rm16 i], exec x s = .next s) ∧
      ((s.reg8 .cl).toNat % 32 = 0 → ∀ x ∈ [Instr.rolRm8Cl rm8, .rorRm8Cl rm8, .rclRm8Cl rm8, .rcrRm8Cl rm8, .shlRm8Cl rm8,
        .shrRm8Cl rm8, .sarRm8Cl rm8, .rolRm16Cl rm16, .rorRm16Cl rm16, .rclRm16Cl rm16, .rcrRm16Cl rm16, .shlRm16Cl rm16,
        .shrRm16Cl rm16, .sarRm16Cl rm16], exec x s = .next s)

/-! ### Strings -/

/-- `43_string.md` R360, R370, R373, R374: MOVS, STOS and LODS of one element. `43_string.md` R371, R372: CMPS compares source
minus destination, SCAS accumulator minus destination; only flags and the index registers change. -/
def Obligations.StringElements : Prop :=
  (∀ s : State, s.pfx.rep = none →
    let src := s.sreg (s.pfx.seg.getD .ds)
    let next := fun (i n : Word) => if s.flags.df then i - n else i + n
    (∃ t, exec .movsb s = .next t ∧
      t = { s with regs := { s.regs with si := next s.regs.si 1, di := next s.regs.di 1 },
                   mem := t.mem, stale := t.stale,
                     devWrites := t.devWrites, busLog := t.busLog } ∧ OnlyDataCycles s t ∧
      (Ram [phys s.sregs.es s.regs.di] s →
        Memory.read t.mem (phys s.sregs.es s.regs.di) = s.loadByte (phys src s.regs.si)) ∧
      MemSameBut [phys s.sregs.es s.regs.di] s t) ∧
      (s.regs.si ≠ 0xFFFF#16 → s.regs.di ≠ 0xFFFF#16 → ∃ t, exec .movsw s = .next t ∧
        t = { s with regs := { s.regs with si := next s.regs.si 2, di := next s.regs.di 2 },
                     mem := t.mem, stale := t.stale,
                     devWrites := t.devWrites, busLog := t.busLog } ∧ OnlyDataCycles s t ∧
        (Ram (wordBytes s.sregs.es s.regs.di) s → heldWord t s.sregs.es s.regs.di = s.loadWord (phys src s.regs.si)) ∧
        MemSameBut (wordBytes s.sregs.es s.regs.di) s t) ∧
      (∃ t, exec .stosb s = .next t ∧
        t = { s with regs := { s.regs with di := next s.regs.di 1 }, mem := t.mem, stale := t.stale,
                     devWrites := t.devWrites, busLog := t.busLog } ∧ OnlyDataCycles s t ∧
        (Ram [phys s.sregs.es s.regs.di] s → Memory.read t.mem (phys s.sregs.es s.regs.di) = s.reg8 .al) ∧
        MemSameBut [phys s.sregs.es s.regs.di] s t) ∧
      (s.regs.di ≠ 0xFFFF#16 → ∃ t, exec .stosw s = .next t ∧
        t = { s with regs := { s.regs with di := next s.regs.di 2 }, mem := t.mem, stale := t.stale,
                     devWrites := t.devWrites, busLog := t.busLog } ∧ OnlyDataCycles s t ∧
        (Ram (wordBytes s.sregs.es s.regs.di) s → heldWord t s.sregs.es s.regs.di = s.regs.ax) ∧
        MemSameBut (wordBytes s.sregs.es s.regs.di) s t) ∧
      (∃ t, exec .lodsb s = .next t ∧ t.reg8 .al = s.loadByte (phys src s.regs.si) ∧ t.reg8 .ah = s.reg8 .ah ∧
        t = { s with regs := { s.regs with ax := t.regs.ax, si := next s.regs.si 1 }, busLog := t.busLog } ∧ OnlyDataCycles s t) ∧
      (s.regs.si ≠ 0xFFFF#16 → Completes (exec .lodsw s) s { s with
        regs := { s.regs with ax := s.loadWord (phys src s.regs.si), si := next s.regs.si 2 } })) ∧
  (∀ s : State, s.pfx.rep = none →
    let src := s.sreg (s.pfx.seg.getD .ds)
    let next := fun (i n : Word) => if s.flags.df then i - n else i + n
    (∃ t, exec .cmpsb s = .next t ∧
      t = { s with regs := { s.regs with si := next s.regs.si 1, di := next s.regs.di 1 }, flags := t.flags,
                     busLog := t.busLog, freeCount := s.freeCount + 1 } ∧ OnlyDataCycles s t ∧
      SubFlags (s.loadByte (phys src s.regs.si)) (s.nextFree.loadByte (phys s.sregs.es s.regs.di)) false s.flags t.flags) ∧
      (s.regs.si ≠ 0xFFFF#16 → s.regs.di ≠ 0xFFFF#16 → ∃ t, exec .cmpsw s = .next t ∧
        t = { s with regs := { s.regs with si := next s.regs.si 2, di := next s.regs.di 2 }, flags := t.flags,
                     busLog := t.busLog, freeCount := s.freeCount + 1 } ∧ OnlyDataCycles s t ∧
        SubFlags (s.loadWord (phys src s.regs.si)) (s.nextFree.loadWord (phys s.sregs.es s.regs.di)) false s.flags t.flags) ∧
      (∃ t, exec .scasb s = .next t ∧ t = { s with regs := { s.regs with di := next s.regs.di 1 }, flags := t.flags,
                                                   busLog := t.busLog } ∧ OnlyDataCycles s t ∧
        SubFlags (s.reg8 .al) (s.loadByte (phys s.sregs.es s.regs.di)) false s.flags t.flags) ∧
      (s.regs.di ≠ 0xFFFF#16 → ∃ t, exec .scasw s = .next t ∧
        t = { s with regs := { s.regs with di := next s.regs.di 2 }, flags := t.flags,
                     busLog := t.busLog } ∧ OnlyDataCycles s t ∧
        SubFlags s.regs.ax (s.loadWord (phys s.sregs.es s.regs.di)) false s.flags t.flags))

/-- `43_string.md` R375, R376: INS stores at ES:DI what IN from port DX reads, in the same cycles; OUTS writes the source element
to port DX. The values and events of the cycles are the model's choice (log 10, log 44, D23). -/
def Obligations.PortStrings : Prop :=
  ∀ s : State, s.pfx.rep = none →
    let src := s.sreg (s.pfx.seg.getD .ds)
    let next := fun (i n : Word) => if s.flags.df then i - n else i + n
    ((s.regs.dx ≤ 0xF7#16 ∨ 0x100#16 ≤ s.regs.dx) →
      (∃ u t, exec .inAlDx s = .next u ∧ exec .insb s = .next t ∧
        t = { u with regs := { s.regs with di := next s.regs.di 1 }, mem := t.mem, stale := t.stale, devWrites := t.devWrites,
                     busLog := u.busLog ++ [.memWrite false (phys s.sregs.es s.regs.di) ((u.reg8 .al).setWidth 16)] } ∧
        (Ram [phys s.sregs.es s.regs.di] s → Memory.read t.mem (phys s.sregs.es s.regs.di) = u.reg8 .al) ∧
        MemSameBut [phys s.sregs.es s.regs.di] s t) ∧
        ∃ v : Word, v = (s.loadByte (phys src s.regs.si)).setWidth 16 ∧ exec .outsb s = .next { s with
          regs := { s.regs with si := next s.regs.si 1 }
          busLog := s.busLog ++ [.memRead false (phys src s.regs.si) v, .output false s.regs.dx v] }) ∧
      ((s.regs.dx ≤ 0xF6#16 ∨ 0x100#16 ≤ s.regs.dx) → s.regs.dx ≠ 0xFFFF#16 →
        (s.regs.di ≠ 0xFFFF#16 → ∃ u t, exec .inAxDx s = .next u ∧ exec .insw s = .next t ∧
          t = { u with regs := { s.regs with di := next s.regs.di 2 }, mem := t.mem, stale := t.stale,
                       devWrites := t.devWrites, busLog := t.busLog } ∧ OnlyDataCycles u t ∧
          (Ram (wordBytes s.sregs.es s.regs.di) s → heldWord t s.sregs.es s.regs.di = u.regs.ax) ∧
          MemSameBut (wordBytes s.sregs.es s.regs.di) s t) ∧
          (s.regs.si ≠ 0xFFFF#16 → ∃ es u, DataCycles es ∧
            exec .outDxAx { s with regs := { s.regs with ax := s.loadWord (phys src s.regs.si) }, busLog := s.busLog ++ es } = .next u ∧
            exec .outsw s = .next { u with regs := { s.regs with si := next s.regs.si 2 } }))

/-- `43_string.md` R361, R362: one iteration under a repeat prefix. With CX = 0 nothing happens; else the element is done, CX
counts down, and the instruction is over when CX is 0 or, for CMPS and SCAS, ZF differs from the prefix's `z`; otherwise the
machine waits at the prefix byte before the opcode, ready for an interrupt unless the instruction stands in a shadow
(`60_exceptions.md` R531, log 40). An interrupt taken there saves the offset of that one prefix byte, and every prefix is lost
(R362, `70_reset_and_hazards.md` R591). -/
def Obligations.RepeatedStrings : Prop :=
  (∀ (d : Due) (i : Instr) (s t : State), Inv s → s.repeating = some i → takeInterrupt d s = .ok t →
    t.pfx = Prefixes.none ∧ t.inPrefix = false ∧ t.repeating = none ∧
      (Ram (frameBytes s) s → heldWord t s.sregs.ss (s.regs.sp - 6) = s.opIp - 1)) ∧
  ∀ (i : Instr) (r : Rep) (s : State), isString i → s.pfx.rep = some r →
    (r = .rep ∨ i ∈ [Instr.cmpsb, .cmpsw, .scasb, .scasw]) →
    (s.regs.cx = 0 → exec i s = .next s) ∧
      ∀ u, s.regs.cx ≠ 0 → exec i { s with pfx := { s.pfx with rep := none } } = .next u →
        ∃ t, exec i s = .next t ∧
          if s.regs.cx - 1 = 0 ∨ (i ∈ [Instr.cmpsb, .cmpsw, .scasb, .scasw] ∧ u.flags.zf ≠ decide (r = .rep)) then
            t = { u with regs := { u.regs with cx := s.regs.cx - 1 }, pfx := s.pfx }
          else
            t = { u with regs := { u.regs with cx := s.regs.cx - 1 }, pfx := s.pfx, ip := s.opIp - 1,
                         inhibitNext := s.inShadow, stiShadow := s.inStiShadow, repeating := some i }

/-- `43_string.md` R361, `92` D33: what the spec refuses of the repeat prefixes. -/
def Obligations.RepeatMisuseRefused : Prop :=
  ∀ s : State,
    (s.pfx.rep = some .repne → ∀ i ∈ [Instr.movsb, .movsw, .stosb, .stosw, .lodsb, .lodsw, .insb, .insw, .outsb, .outsw],
      exec i s = .refused .repneOnNonCompare) ∧
      (s.pfx.rep = some .repne → exec .rep s = .refused .repConflict) ∧
      (s.pfx.rep = some .rep → exec .repne s = .refused .repConflict) ∧
      (∀ i, dueInterrupt s = none → s.halted = false → s.repeating = none → s.pfx.rep ≠ none →
        (∃ rest, decode (fetch s).1 = .instr i rest) → ¬isString i →
        i ∉ [Instr.segEs, .segCs, .segSs, .segDs, .lock, .rep, .repne] → step s = .refused .repOnNonString)

/-! ### Program transfer -/

/-- `44_program_transfer.md` R401, R405, R410 to R425: the sixteen conditional jumps. A taken jump discards the prefetch queue
(R400). `44_program_transfer.md` R445 to R448: LOOP, LOOPE, LOOPNE count CX down, then test; JCXZ tests CX. No flag changes. -/
def Obligations.ConditionalJumpsAndLoops : Prop :=
  ((∀ (d : Byte) (rest : List Byte),
    ((List.range 16).map fun k => decode (BitVec.ofNat 8 (0x70 + k) :: d :: rest)) =
      [Instr.jo d, .jno d, .jb d, .jae d, .je d, .jne d, .jbe d, .ja d, .js d, .jns d, .jp d, .jnp d, .jl d, .jge d, .jle d,
        .jg d].map fun i => .instr i rest) ∧
    (∀ (s : State) (d : Byte),
    let go := fun c : Bool => Host.Outcome.next (φ := Fault) (ρ := Refusal)
      (if c then { s with ip := s.ip + d.signExtend 16, stale := [] } else s)
    exec (.jo d) s = go s.flags.ofl ∧ exec (.jno d) s = go (!s.flags.ofl) ∧
      exec (.jb d) s = go s.flags.cf ∧ exec (.jae d) s = go (!s.flags.cf) ∧
      exec (.je d) s = go s.flags.zf ∧ exec (.jne d) s = go (!s.flags.zf) ∧
      exec (.jbe d) s = go (s.flags.cf || s.flags.zf) ∧ exec (.ja d) s = go (!s.flags.cf && !s.flags.zf) ∧
      exec (.js d) s = go s.flags.sf ∧ exec (.jns d) s = go (!s.flags.sf) ∧
      exec (.jp d) s = go s.flags.pf ∧ exec (.jnp d) s = go (!s.flags.pf) ∧
      exec (.jl d) s = go (s.flags.sf != s.flags.ofl) ∧ exec (.jge d) s = go (s.flags.sf == s.flags.ofl) ∧
      exec (.jle d) s = go (s.flags.zf || (s.flags.sf != s.flags.ofl)) ∧
      exec (.jg d) s = go (!s.flags.zf && (s.flags.sf == s.flags.ofl)))) ∧
  ((∀ (d : Byte) (rest : List Byte),
    decode (0xE2#8 :: d :: rest) = .instr (.loop d) rest ∧ decode (0xE1#8 :: d :: rest) = .instr (.loope d) rest ∧
      decode (0xE0#8 :: d :: rest) = .instr (.loopne d) rest ∧ decode (0xE3#8 :: d :: rest) = .instr (.jcxz d) rest) ∧
    (∀ (s : State) (d : Byte),
    let s' := { s with regs := { s.regs with cx := s.regs.cx - 1 } }
    let go := fun (u : State) (c : Bool) => Host.Outcome.next (φ := Fault) (ρ := Refusal)
      (if c then { u with ip := s.ip + d.signExtend 16, stale := [] } else u)
    exec (.loop d) s = go s' (decide (s.regs.cx - 1 ≠ 0)) ∧
      exec (.loope d) s = go s' (decide (s.regs.cx - 1 ≠ 0) && s.flags.zf) ∧
      exec (.loopne d) s = go s' (decide (s.regs.cx - 1 ≠ 0) && !s.flags.zf) ∧
      exec (.jcxz d) s = go s (decide (s.regs.cx = 0))))

/-- `44_program_transfer.md` R430 to R434: the five forms of JMP. -/
def Obligations.Jumps : Prop :=
  (∀ (a b c d : Byte) (rest : List Byte),
    decode (0xEB#8 :: a :: rest) = .instr (.jmpShort a) rest ∧
      decode (0xE9#8 :: a :: b :: rest) = .instr (.jmpNear (b ++ a)) rest ∧
      decode (0xEA#8 :: a :: b :: c :: d :: rest) = .instr (.jmpFar (b ++ a) (d ++ c)) rest) ∧
    (∀ s : State,
    (∀ d, exec (.jmpShort d) s = .next { s with ip := s.ip + d.signExtend 16, stale := [] }) ∧
      (∀ d, exec (.jmpNear d) s = .next { s with ip := s.ip + d, stale := [] }) ∧
      (∀ rm, Accessible rm s → Completes (exec (.jmpRm16 rm) s) s { s with ip := opWord rm s, stale := [] }) ∧
      (∀ off seg, exec (.jmpFar off seg) s = .next { s with sregs := { s.sregs with cs := seg }, ip := off, stale := [] }) ∧
      ∀ m, ea m s ≤ 0xFFFC#16 → Completes (exec (.jmpMem32 m) s) s { s with
        sregs := { s.sregs with cs := s.loadWord (phys (memSeg m s) (ea m s + 2)) }
        ip := s.loadWord (phys (memSeg m s) (ea m s)), stale := [] })

/-- `44_program_transfer.md` R435 to R438: the four forms of CALL; a far call pushes CS, then the return offset. -/
def Obligations.Calls : Prop :=
  ∀ s : State, s.regs.sp - 2 ≠ 0xFFFF#16 →
    let Near := fun (i : Instr) (target : Word) => ∃ u, Pushed s.ip s u ∧ exec i s = .next { u with ip := target, stale := [] }
    let Far := fun (i : Instr) (seg off : Word) => ∃ u t, Pushed s.sregs.cs s u ∧ Pushed s.ip u t ∧
      exec i s = .next { t with sregs := { s.sregs with cs := seg }, ip := off, stale := [] }
    (∀ d, Near (.callNear d) (s.ip + d)) ∧ (∀ rm, Accessible rm s → Near (.callRm16 rm) (opWord rm s)) ∧
      (s.regs.sp - 4 ≠ 0xFFFF#16 → (∀ off seg, Far (.callFar off seg) seg off) ∧
        ∀ m, ea m s ≤ 0xFFFC#16 → Far (.callMem32 m) (s.loadWord (phys (memSeg m s) (ea m s + 2)))
          (s.loadWord (phys (memSeg m s) (ea m s))))

/-- `44_program_transfer.md` R440 to R443: the four forms of RET. CALL and RET of the same type are inverse
(`44_program_transfer.md`, the text before R435): after them CS, IP, SP and every other register are as they were. -/
def Obligations.Returns : Prop :=
  ((∀ (a b : Byte) (rest : List Byte),
    decode (0xC3#8 :: rest) = .instr .retNear rest ∧ decode (0xC2#8 :: a :: b :: rest) = .instr (.retNearImm16 (b ++ a)) rest ∧
      decode (0xCB#8 :: rest) = .instr .retFar rest ∧
      decode (0xCA#8 :: a :: b :: rest) = .instr (.retFarImm16 (b ++ a)) rest) ∧
    (∀ (s : State) (v : Word), s.regs.sp ≠ 0xFFFF#16 →
    Completes (exec .retNear s) s { s with regs := { s.regs with sp := s.regs.sp + 2 }, ip := stackTop s, stale := [] } ∧
      Completes (exec (.retNearImm16 v) s) s { s with regs := { s.regs with sp := s.regs.sp + 2 + v }, ip := stackTop s, stale := [] } ∧
      (s.regs.sp + 2 ≠ 0xFFFF#16 →
        Completes (exec .retFar s) s { s with regs := { s.regs with sp := s.regs.sp + 4 }, ip := stackTop s,
                                              sregs := { s.sregs with cs := stackWord s 2 }, stale := [] } ∧
          Completes (exec (.retFarImm16 v) s) s { s with regs := { s.regs with sp := s.regs.sp + 4 + v }, ip := stackTop s,
                                                         sregs := { s.sregs with cs := stackWord s 2 }, stale := [] }))) ∧
  (∀ (s t : State) (d off seg : Word),
    (Ram (wordBytes s.sregs.ss (s.regs.sp - 2)) s → exec (.callNear d) s = .next t →
      ∃ u, exec .retNear t = .next u ∧ u.ip = s.ip ∧ u.regs = s.regs ∧ u.sregs = s.sregs ∧ u.flags = s.flags) ∧
      (Ram (wordBytes s.sregs.ss (s.regs.sp - 2) ++ wordBytes s.sregs.ss (s.regs.sp - 4)) s → exec (.callFar off seg) s = .next t →
        ∃ u, exec .retFar t = .next u ∧ u.ip = s.ip ∧ u.regs = s.regs ∧ u.sregs = s.sregs ∧ u.flags = s.flags))

/-! ### Interrupts -/

/-- `60_exceptions.md` R510: the interrupt sequence, for every type and every state in which the pushes and the vector have a
meaning. -/
def Obligations.InterruptSequence : Prop :=
  ∀ (n : Byte) (s : State), EntryOk n s → ∃ t, enter n s = .ok t ∧ Entered n s.ip s t

/-- `44_program_transfer.md` R450, R451, R452: INT n, INT 3 and INTO with OF set save the next instruction's offset; INTO with OF
clear does nothing. -/
def Obligations.SoftwareInterrupts : Prop :=
  (∀ (n : Byte) (rest : List Byte), decode (0xCD#8 :: n :: rest) = .instr (.intImm8 n) rest ∧
    decode (0xCC#8 :: rest) = .instr .int3 rest ∧ decode (0xCE#8 :: rest) = .instr .into rest) ∧
    (∀ s : State,
    (∀ n, EntryOk n s → Takes n s.ip (exec (.intImm8 n) s) s) ∧ (EntryOk 3 s → Takes 3 s.ip (exec .int3 s) s) ∧
      (EntryOk 4 s → s.flags.ofl = true → Takes 4 s.ip (exec .into s) s) ∧ (s.flags.ofl = false → exec .into s = .next s))

/-- `60_exceptions.md` R511, `44_program_transfer.md` R454: IRET pops IP, CS and the nine flags. `60_exceptions.md` R510, R511,
R505: an interrupt sequence followed by IRET continues where the interrupt came, with CS, IP, SP, every other register and all
nine flags as they were. -/
def Obligations.IretReturns : Prop :=
  (∀ s : State, s.regs.sp ≠ 0xFFFF#16 → s.regs.sp + 2 ≠ 0xFFFF#16 → s.regs.sp + 4 ≠ 0xFFFF#16 →
    Completes (exec .iret s) s { s with
      regs := { s.regs with sp := s.regs.sp + 6 }
      sregs := { s.sregs with cs := stackWord s 2 }
      ip := stackTop s
      flags := flagsOfImage (stackWord s 4)
      stale := [] }) ∧
  (∀ (n : Byte) (s t : State), Ram (frameBytes s) s → enter n s = .ok t →
    ∃ u, exec .iret t = .next u ∧ u.ip = s.ip ∧ u.sregs = s.sregs ∧ u.regs = s.regs ∧ u.flags = s.flags)

/-- `60_exceptions.md` R520, R521, R531, R532, R535: a boundary is open but after a prefix, in the shadow of a segment load, and,
where the hardware keeps that window shut, between the iterations of a LOCKed repeated string. At an open boundary a pending NMI
is taken, whatever IF is, and its latch cleared; without one a maskable request is taken when IF is set and the delay of STI is
over; with IF clear it is not. That the LOCKed window is left open or shut by a free choice is the model's (log 17): R532 shuts
it, while `43_string.md` R362 and `70_reset_and_hazards.md` R590, R591 have `F0 F3 A4` lose its LOCK when interrupted. That the
request is cleared when it is taken is the model's choice too (log 21), and so is its one Interrupt Acknowledge event (log 39).
That type 1 follows such an entry when TF is set at the boundary, and is not added between the iterations of a repeated string, is
the model's reading of R537 and R538 (DEDUCED, log 42). -/
def Obligations.BoundaryRecognition : Prop :=
  ∀ s : State,
    (boundaryOpen s = true ↔ s.inPrefix = false ∧ s.inhibitNext = false ∧ ¬(s.repeating.isSome = true ∧ s.pfx.lock = true ∧ Config.lockedRepInterruptible = false)) ∧
    (s.repeating.isSome = true → s.pfx.lock = true → Config.lockedRepInterruptible = false → dueInterrupt s = none) ∧ (boundaryOpen s = true →
    (s.nmiPending = true → step s = finish (s.flags.tf && s.repeating.isNone) (outcome (enter 2 { s with nmiPending := false }))) ∧
      (s.nmiPending = false → s.flags.ifl = true → s.stiShadow = false → ∀ n, s.intr = some n →
        step s = finish (s.flags.tf && s.repeating.isNone) (outcome (enter n { s with intr := none, busLog := s.busLog ++ [.intAck n] }))) ∧
      (s.nmiPending = false → s.flags.ifl = false → dueInterrupt s = none))

/-- `10_state.md` R53, `60_exceptions.md` R531, `45_processor_control.md` R476 (`92` D12): an instruction begins with both marks
clear and leaves one only if it sets it, a segment load the shadow and STI the delay, or if it is not over: a repeated string
between two iterations, a WAIT that waits. That such an instruction keeps the marks it began with until it is over is the model's
choice (log 40). -/
def Obligations.ShadowLastsOneInstruction : Prop :=
  (∀ (i : Instr) (len : Nat) (s t : State), exec i (begin len s) = .next t →
    (t.inhibitNext = true → i ∈ [Instr.popEs, .popSs, .popDs] ∨ (∃ sr rm, i = .movSregRm16 sr rm) ∨
      ((t.repeating = some i ∨ i = .wait ∧ s.testActive = false) ∧ (begin len s).inShadow = true)) ∧
    (t.stiShadow = true → i = .sti ∨
      ((t.repeating = some i ∨ i = .wait ∧ s.testActive = false) ∧ (begin len s).inStiShadow = true))) ∧
    (∀ (s : State) (len : Nat), s.inPrefix = false →
      (begin len s).inShadow = s.inhibitNext ∧ (begin len s).inStiShadow = s.stiShadow) ∧
    ∀ s t : State, Inv s → s.repeating.isSome = true → step s = .next t → t.repeating.isSome = true →
      t.inhibitNext = s.inhibitNext ∧ t.stiShadow = s.stiShadow ∧ (s.inhibitNext = true → dueInterrupt t = none) ∧
        (s.stiShadow = true → ∀ n, dueInterrupt t ≠ some (.intr n))

/-- `60_exceptions.md` R520 (`92` D34): what the pins do at the end of a step. An NMI edge is latched whatever IF is, and a second
edge before the first is taken is lost; a latched edge is what the next open boundary takes. That one entry of the schedule is
read in each step, with the request and TEST# as levels, is the model's choice (log 21). -/
def Obligations.EnvironmentPins : Prop :=
  ∀ (s : State) (e : EnvInput) (rest : List EnvInput), s.env = e :: rest → e.reset = false →
    let t := { s with env := rest, nmiPending := s.nmiPending || e.nmiEdge, intr := e.intr, testActive := e.test }
    finish false (.next s) = .next (retire t) ∧ (retire t).nmiPending = (s.nmiPending || e.nmiEdge) ∧
      (s.nmiPending = true ∨ e.nmiEdge = true → boundaryOpen t = true → dueInterrupt (retire t) = some .nmi) ∧
      ∀ u, enter 2 { s with nmiPending := false } = .ok u → takeInterrupt .nmi s = .ok u ∧ u.nmiPending = false

/-- `70_reset_and_hazards.md` R580, R584, `10_state.md` R60 (`92` D30): RES# asserted while the machine runs gives the core its
reset state, with free general registers and memory unchanged. That it acts at the end of a step, what else of the board stays
(log 34), and that an NMI edge in the same entry is dropped (log 43) are the model's choice. -/
def Obligations.ResetWhileRunning : Prop :=
  ∀ (s : State) (tf0 : Bool) (e : EnvInput) (rest : List EnvInput), s.env = e :: rest → e.reset = true →
    ∃ t, finish tf0 (.next s) = .next t ∧
      t = { State.reset with
        regs := t.regs, mem := s.mem, memMap := s.memMap, testActive := s.testActive, numericsMode := s.numericsMode,
        busLog := s.busLog, devWrites := s.devWrites, ioIn := s.ioIn, env := rest, freeCount := t.freeCount } ∧
      t.sregs = { es := 0, cs := 0xFFFF#16, ss := 0, ds := 0 } ∧ t.ip = 0 ∧ (∀ u : Word, t.flags.image u &&& 0x0FD5#16 = 0) ∧
      t.halted = false ∧ t.nmiPending = false ∧ t.inhibitNext = false ∧ t.stale = [] ∧ dueInterrupt t = none

/-- `60_exceptions.md` R523, R537, R538: after an instruction that began with TF set the single-step trap is taken with the next
instruction's offset saved; when an interrupt waits at the same boundary, NMI or a maskable request that IF lets in, it vectors
first and the trap saves the address of its handler. Where an interrupt comes first because an IRET has just set IF and TF, the
trap follows its entry too: the model's reading of R538 (log 42). That the request is cleared and logged as it is taken is the
model's choice (log 21, log 39). `60_exceptions.md` R523, R531, `30_encoding.md` R140: no boundary after a prefix or a segment
load, and no single-step trap there or after WAIT. -/
def Obligations.SingleStepTrap : Prop :=
  (∀ (s : State), s.env = [] → boundaryOpen s = true → s.afterWait = false → s.repeating = none → s.pfx = Prefixes.none →
    (dueInterrupt s = none → finish true (.next s) = outcome (enter 1 s)) ∧
      (s.nmiPending = true → ∀ t, enter 2 { s with nmiPending := false } = .ok t → finish true (.next s) = outcome (enter 1 t)) ∧
      (∀ n t, s.nmiPending = false → s.flags.ifl = true → s.stiShadow = false → s.intr = some n →
        enter n { s with intr := none, busLog := s.busLog ++ [.intAck n] } = .ok t →
        finish true (.next s) = outcome (enter 1 t)) ∧
      (∀ d t, dueInterrupt s = some d → s.flags.tf = true → takeInterrupt d s = .ok t → step s = outcome (enter 1 t)) ∧
      finish false (.next s) = .next s) ∧
  (∀ (i : Instr) (s t : State), exec i s = .next t →
    (i ∈ [Instr.segEs, .segCs, .segSs, .segDs, .lock, .rep, .repne, .popEs, .popSs, .popDs] ∨ (∃ sr rm, i = .movSregRm16 sr rm) →
      dueInterrupt t = none ∧ ∀ tf0, stepTrapDue tf0 t = false) ∧
      (i = .wait → ∀ tf0, stepTrapDue tf0 t = false))

/-! ### Processor control -/

/-- `45_processor_control.md` R471 to R475, R477: each of STC, CLC, CMC, STD, CLD and CLI, by its opcode, changes exactly its
flag; no maskable interrupt is taken at the boundary after CLI. -/
def Obligations.FlagOperations : Prop :=
  (∀ rest, decode (0xF9#8 :: rest) = .instr .stc rest ∧ decode (0xF8#8 :: rest) = .instr .clc rest ∧
    decode (0xF5#8 :: rest) = .instr .cmc rest ∧ decode (0xFD#8 :: rest) = .instr .std rest ∧
    decode (0xFC#8 :: rest) = .instr .cld rest ∧ decode (0xFA#8 :: rest) = .instr .cli rest) ∧
    (∀ s : State,
    exec .stc s = .next { s with flags := { s.flags with cf := true } } ∧
      exec .clc s = .next { s with flags := { s.flags with cf := false } } ∧
      exec .cmc s = .next { s with flags := { s.flags with cf := !s.flags.cf } } ∧
      exec .std s = .next { s with flags := { s.flags with df := true } } ∧
      exec .cld s = .next { s with flags := { s.flags with df := false } } ∧
      exec .cli s = .next { s with flags := { s.flags with ifl := false } } ∧
      ∀ n, dueInterrupt { s with flags := { s.flags with ifl := false } } ≠ some (.intr n))

/-- `45_processor_control.md` R476, R480, R481, R488: HLT, WAIT, NOP and STI (with IF clear it starts the delay, `92` D12); a WAIT
that waits goes back to its first byte (log 25), still in the shadow it began in (log 40); and the halted machine stays as it is
until an interrupt is due (log 24). `30_encoding.md` R140, `45_processor_control.md` R487, R489, `43_string.md` R361: each prefix
is recorded for the instruction that follows, and nothing else changes. -/
def Obligations.HaltWaitNopStiPrefixes : Prop :=
  (∀ s : State,
    exec .hlt s = .next { s with halted := true, busLog := s.busLog ++ [.halt] } ∧
      (s.testActive = true → exec .wait s = .next { s with afterWait := true }) ∧
      (s.testActive = false → exec .wait s = .next { s with
        inhibitNext := s.inShadow, stiShadow := s.inStiShadow, ip := s.startIp, afterWait := true }) ∧
      exec .nop s = .next s ∧
      exec .sti s = .next { s with flags := { s.flags with ifl := true }, stiShadow := !s.flags.ifl } ∧
      (s.halted = true → dueInterrupt s = none → s.env = [] → s.inPrefix = false → s.repeating = none → s.pfx = Prefixes.none →
        step s = .next s)) ∧
  (∀ s : State,
    exec .segEs s = .next { s with pfx := { s.pfx with seg := some .es }, inPrefix := true } ∧
      exec .segCs s = .next { s with pfx := { s.pfx with seg := some .cs }, inPrefix := true } ∧
      exec .segSs s = .next { s with pfx := { s.pfx with seg := some .ss }, inPrefix := true } ∧
      exec .segDs s = .next { s with pfx := { s.pfx with seg := some .ds }, inPrefix := true } ∧
      exec .lock s = .next { s with pfx := { s.pfx with lock := true }, inPrefix := true } ∧
      (s.pfx.rep ≠ some .repne → exec .rep s = .next { s with pfx := { s.pfx with rep := some .rep }, inPrefix := true }) ∧
      (s.pfx.rep ≠ some .rep → exec .repne s = .next { s with pfx := { s.pfx with rep := some .repne }, inPrefix := true }))

/-- `45_processor_control.md` R485, `60_exceptions.md` R529: outside Numerics Mode, or with ET set, or on the 80C188XL, ESC raises
type 7 with the address of its first byte saved; else it is refused (`92` D17). -/
def Obligations.EscapeFaults : Prop :=
  ∀ (s : State) (x y : BitVec 3) (rm : Rm16),
    (s.numericsMode = false ∨ s.et = true → EntryOk 7 s → Takes 7 s.startIp (exec (.esc x y rm) s) { s with ip := s.startIp }) ∧
      (s.numericsMode = true → s.et = false → EntryOk 7 s →
        if Config.bus16 then exec (.esc x y rm) s = .refused .coprocessor
        else Takes 7 s.startIp (exec (.esc x y rm) s) { s with ip := s.startIp })
end

