-- ==== Sys2Proof/Laws/Flags.lean ====
section
/-! SUPPORT. What the flag computations answer, in the words of `Safety.lean`. -/

namespace Sys2Proof.Laws

open Sys2Proof Sys2Proof.Machine Sys2Proof.Safety

/-- The parity the machine computes is the parity of the low byte. -/
theorem parity8_eq {w : Nat} (r : BitVec w) : parity8 (r.setWidth 8) = evenOnes r := by
  have h : (List.range 8) = [0, 1, 2, 3, 4, 5, 6, 7] := rfl
  simp only [parity8, evenOnes, h, List.countP_cons, List.countP_nil, BitVec.getLsbD_setWidth]
  generalize r.getLsbD 0 = a0; generalize r.getLsbD 1 = a1; generalize r.getLsbD 2 = a2; generalize r.getLsbD 3 = a3
  generalize r.getLsbD 4 = a4; generalize r.getLsbD 5 = a5; generalize r.getLsbD 6 = a6; generalize r.getLsbD 7 = a7
  revert a0 a1 a2 a3 a4 a5 a6 a7
  decide

/-- The most significant bit is bit `w - 1`. -/
theorem msb_eq {w : Nat} (r : BitVec w) : r.msb = r.getLsbD (w - 1) := by
  cases w with
  | zero => simp [BitVec.eq_nil r]
  | succ w => simp [BitVec.msb_eq_getLsbD_last]

theorem beq_zero_eq {w : Nat} (r : BitVec w) : (r == 0#w) = decide (r.toNat = 0) := by
  by_cases h : r = 0#w
  · simp [h]
  · have h' : r.toNat ≠ 0 := fun e => h (BitVec.eq_of_toNat_eq (by simpa using e))
    simp [h, h']

/-- `setSZP` sets the flags of a result and keeps the other six. -/
theorem setSZP_result {w : Nat} (f : Flags) (r : BitVec w) : ResultFlags r (f.setSZP r) :=
  ⟨msb_eq r, beq_zero_eq r, parity8_eq r⟩

@[simp] theorem setSZP_cf {w : Nat} (f : Flags) (r : BitVec w) : (f.setSZP r).cf = f.cf := by simp only [Flags.setSZP]
@[simp] theorem setSZP_af {w : Nat} (f : Flags) (r : BitVec w) : (f.setSZP r).af = f.af := by simp only [Flags.setSZP]
@[simp] theorem setSZP_ofl {w : Nat} (f : Flags) (r : BitVec w) : (f.setSZP r).ofl = f.ofl := by simp only [Flags.setSZP]
@[simp] theorem setSZP_tf {w : Nat} (f : Flags) (r : BitVec w) : (f.setSZP r).tf = f.tf := by simp only [Flags.setSZP]
@[simp] theorem setSZP_ifl {w : Nat} (f : Flags) (r : BitVec w) : (f.setSZP r).ifl = f.ifl := by simp only [Flags.setSZP]
@[simp] theorem setSZP_df {w : Nat} (f : Flags) (r : BitVec w) : (f.setSZP r).df = f.df := by simp only [Flags.setSZP]

/-- The result of `add_W` is the sum modulo `2 ^ w`. -/
@[simp] theorem addW_fst {w : Nat} (a b : BitVec w) (c : Bool) (f : Flags) :
    (addW a b c f).1 = a + b + BitVec.ofNat w c.toNat := by
  apply BitVec.eq_of_toNat_eq
  simp [addW]

theorem addW_flags {w : Nat} (a b : BitVec w) (c : Bool) (f : Flags) : AddFlags a b c f (addW a b c f).2 := by
  have h := addW_fst a b c f
  have h' : BitVec.ofNat w (a.toNat + b.toNat + c.toNat) = a + b + BitVec.ofNat w c.toNat := h
  refine ⟨rfl, rfl, ?_, ?_, ⟨rfl, rfl, rfl⟩⟩
  · simp only [addW, setSZP_ofl, h', msb_eq]
    generalize a.getLsbD (w - 1) = x; generalize b.getLsbD (w - 1) = y
    generalize (a + b + BitVec.ofNat w c.toNat).getLsbD (w - 1) = z
    revert x y z; decide
  · simp only [addW, h']; exact setSZP_result _ _

@[simp] theorem subW_fst {w : Nat} (a b : BitVec w) (c : Bool) (f : Flags) :
    (subW a b c f).1 = a - b - BitVec.ofNat w c.toNat := rfl

theorem subW_flags {w : Nat} (a b : BitVec w) (c : Bool) (f : Flags) : SubFlags a b c f (subW a b c f).2 := by
  refine ⟨rfl, rfl, ?_, setSZP_result _ _, ⟨rfl, rfl, rfl⟩⟩
  simp only [subW, setSZP_ofl, msb_eq]
  generalize a.getLsbD (w - 1) = x; generalize b.getLsbD (w - 1) = y
  generalize (a - b - BitVec.ofNat w c.toNat).getLsbD (w - 1) = z
  revert x y z; decide

theorem logicW_flags {w : Nat} (r : BitVec w) (u : Word) (f : Flags) : LogicFlags r f (logicW r u f).2 :=
  ⟨rfl, rfl, setSZP_result _ _, ⟨rfl, rfl, rfl⟩⟩

@[simp] theorem logicW_fst {w : Nat} (r : BitVec w) (u : Word) (f : Flags) : (logicW r u f).1 = r := rfl

/-- The flags of an image are those it was made of, whatever its reserved bits hold. -/
@[simp] theorem flagsOfImage_image (f : Flags) (u : Word) : flagsOfImage (f.image u) = f := by
  cases f
  simp [flagsOfImage, Flags.image, BitVec.ofBoolListLE]

end Sys2Proof.Laws
end

