-- ==== Sys2Proof/Laws/State.lean ====
section
/-! SUPPORT. One lemma for each field under each named update of the state: which fields the update leaves, and the value of those it
sets. -/

namespace Sys2Proof.Laws

open Sys2Proof Sys2Proof.Machine

/-- What stands at an address depends on the memory map and the place of the Peripheral Control Block alone. -/
theorem region_congr {s t : State} (hm : t.memMap = s.memMap) (hi : t.pcbInMemory = s.pcbInMemory) (hb : t.pcbBase = s.pcbBase) :
    t.region = s.region := by
  funext a
  unfold State.region State.isPcb
  rw [hm, hi, hb]

/-! ### `setReg16` -/

@[simp] theorem setReg16_sregs (s : State) (r : Reg16) (v : Word) : (s.setReg16 r v).sregs = s.sregs := by cases r <;> rfl

@[simp] theorem setReg16_ip (s : State) (r : Reg16) (v : Word) : (s.setReg16 r v).ip = s.ip := by cases r <;> rfl

@[simp] theorem setReg16_flags (s : State) (r : Reg16) (v : Word) : (s.setReg16 r v).flags = s.flags := by cases r <;> rfl

@[simp] theorem setReg16_mem (s : State) (r : Reg16) (v : Word) : (s.setReg16 r v).mem = s.mem := by cases r <;> rfl

@[simp] theorem setReg16_memMap (s : State) (r : Reg16) (v : Word) : (s.setReg16 r v).memMap = s.memMap := by cases r <;> rfl

@[simp] theorem setReg16_pcbInMemory (s : State) (r : Reg16) (v : Word) : (s.setReg16 r v).pcbInMemory = s.pcbInMemory := by cases r <;> rfl

@[simp] theorem setReg16_pcbBase (s : State) (r : Reg16) (v : Word) : (s.setReg16 r v).pcbBase = s.pcbBase := by cases r <;> rfl

@[simp] theorem setReg16_stale (s : State) (r : Reg16) (v : Word) : (s.setReg16 r v).stale = s.stale := by cases r <;> rfl

@[simp] theorem setReg16_devWrites (s : State) (r : Reg16) (v : Word) : (s.setReg16 r v).devWrites = s.devWrites := by cases r <;> rfl

@[simp] theorem setReg16_nmiPending (s : State) (r : Reg16) (v : Word) : (s.setReg16 r v).nmiPending = s.nmiPending := by cases r <;> rfl

@[simp] theorem setReg16_intr (s : State) (r : Reg16) (v : Word) : (s.setReg16 r v).intr = s.intr := by cases r <;> rfl

@[simp] theorem setReg16_inhibitNext (s : State) (r : Reg16) (v : Word) : (s.setReg16 r v).inhibitNext = s.inhibitNext := by cases r <;> rfl

@[simp] theorem setReg16_stiShadow (s : State) (r : Reg16) (v : Word) : (s.setReg16 r v).stiShadow = s.stiShadow := by cases r <;> rfl

@[simp] theorem setReg16_inShadow (s : State) (r : Reg16) (v : Word) : (s.setReg16 r v).inShadow = s.inShadow := by cases r <;> rfl

@[simp] theorem setReg16_inStiShadow (s : State) (r : Reg16) (v : Word) : (s.setReg16 r v).inStiShadow = s.inStiShadow := by cases r <;> rfl

@[simp] theorem setReg16_halted (s : State) (r : Reg16) (v : Word) : (s.setReg16 r v).halted = s.halted := by cases r <;> rfl

@[simp] theorem setReg16_afterWait (s : State) (r : Reg16) (v : Word) : (s.setReg16 r v).afterWait = s.afterWait := by cases r <;> rfl

@[simp] theorem setReg16_testActive (s : State) (r : Reg16) (v : Word) : (s.setReg16 r v).testActive = s.testActive := by cases r <;> rfl

@[simp] theorem setReg16_et (s : State) (r : Reg16) (v : Word) : (s.setReg16 r v).et = s.et := by cases r <;> rfl

@[simp] theorem setReg16_numericsMode (s : State) (r : Reg16) (v : Word) : (s.setReg16 r v).numericsMode = s.numericsMode := by cases r <;> rfl

@[simp] theorem setReg16_inPrefix (s : State) (r : Reg16) (v : Word) : (s.setReg16 r v).inPrefix = s.inPrefix := by cases r <;> rfl

@[simp] theorem setReg16_pfx (s : State) (r : Reg16) (v : Word) : (s.setReg16 r v).pfx = s.pfx := by cases r <;> rfl

@[simp] theorem setReg16_repeating (s : State) (r : Reg16) (v : Word) : (s.setReg16 r v).repeating = s.repeating := by cases r <;> rfl

@[simp] theorem setReg16_startIp (s : State) (r : Reg16) (v : Word) : (s.setReg16 r v).startIp = s.startIp := by cases r <;> rfl

@[simp] theorem setReg16_opIp (s : State) (r : Reg16) (v : Word) : (s.setReg16 r v).opIp = s.opIp := by cases r <;> rfl

@[simp] theorem setReg16_busLog (s : State) (r : Reg16) (v : Word) : (s.setReg16 r v).busLog = s.busLog := by cases r <;> rfl

@[simp] theorem setReg16_ioIn (s : State) (r : Reg16) (v : Word) : (s.setReg16 r v).ioIn = s.ioIn := by cases r <;> rfl

@[simp] theorem setReg16_env (s : State) (r : Reg16) (v : Word) : (s.setReg16 r v).env = s.env := by cases r <;> rfl

@[simp] theorem setReg16_freeCount (s : State) (r : Reg16) (v : Word) : (s.setReg16 r v).freeCount = s.freeCount := by cases r <;> rfl

@[simp] theorem setReg16_region (s : State) (r : Reg16) (v : Word) : (s.setReg16 r v).region = s.region :=
  region_congr (by simp) (by simp) (by simp)

/-! ### `setReg8` -/

@[simp] theorem setReg8_sregs (s : State) (r : Reg8) (v : Byte) : (s.setReg8 r v).sregs = s.sregs := by cases r <;> rfl

@[simp] theorem setReg8_ip (s : State) (r : Reg8) (v : Byte) : (s.setReg8 r v).ip = s.ip := by cases r <;> rfl

@[simp] theorem setReg8_flags (s : State) (r : Reg8) (v : Byte) : (s.setReg8 r v).flags = s.flags := by cases r <;> rfl

@[simp] theorem setReg8_mem (s : State) (r : Reg8) (v : Byte) : (s.setReg8 r v).mem = s.mem := by cases r <;> rfl

@[simp] theorem setReg8_memMap (s : State) (r : Reg8) (v : Byte) : (s.setReg8 r v).memMap = s.memMap := by cases r <;> rfl

@[simp] theorem setReg8_pcbInMemory (s : State) (r : Reg8) (v : Byte) : (s.setReg8 r v).pcbInMemory = s.pcbInMemory := by cases r <;> rfl

@[simp] theorem setReg8_pcbBase (s : State) (r : Reg8) (v : Byte) : (s.setReg8 r v).pcbBase = s.pcbBase := by cases r <;> rfl

@[simp] theorem setReg8_stale (s : State) (r : Reg8) (v : Byte) : (s.setReg8 r v).stale = s.stale := by cases r <;> rfl

@[simp] theorem setReg8_devWrites (s : State) (r : Reg8) (v : Byte) : (s.setReg8 r v).devWrites = s.devWrites := by cases r <;> rfl

@[simp] theorem setReg8_nmiPending (s : State) (r : Reg8) (v : Byte) : (s.setReg8 r v).nmiPending = s.nmiPending := by cases r <;> rfl

@[simp] theorem setReg8_intr (s : State) (r : Reg8) (v : Byte) : (s.setReg8 r v).intr = s.intr := by cases r <;> rfl

@[simp] theorem setReg8_inhibitNext (s : State) (r : Reg8) (v : Byte) : (s.setReg8 r v).inhibitNext = s.inhibitNext := by cases r <;> rfl

@[simp] theorem setReg8_stiShadow (s : State) (r : Reg8) (v : Byte) : (s.setReg8 r v).stiShadow = s.stiShadow := by cases r <;> rfl

@[simp] theorem setReg8_inShadow (s : State) (r : Reg8) (v : Byte) : (s.setReg8 r v).inShadow = s.inShadow := by cases r <;> rfl

@[simp] theorem setReg8_inStiShadow (s : State) (r : Reg8) (v : Byte) : (s.setReg8 r v).inStiShadow = s.inStiShadow := by cases r <;> rfl

@[simp] theorem setReg8_halted (s : State) (r : Reg8) (v : Byte) : (s.setReg8 r v).halted = s.halted := by cases r <;> rfl

@[simp] theorem setReg8_afterWait (s : State) (r : Reg8) (v : Byte) : (s.setReg8 r v).afterWait = s.afterWait := by cases r <;> rfl

@[simp] theorem setReg8_testActive (s : State) (r : Reg8) (v : Byte) : (s.setReg8 r v).testActive = s.testActive := by cases r <;> rfl

@[simp] theorem setReg8_et (s : State) (r : Reg8) (v : Byte) : (s.setReg8 r v).et = s.et := by cases r <;> rfl

@[simp] theorem setReg8_numericsMode (s : State) (r : Reg8) (v : Byte) : (s.setReg8 r v).numericsMode = s.numericsMode := by cases r <;> rfl

@[simp] theorem setReg8_inPrefix (s : State) (r : Reg8) (v : Byte) : (s.setReg8 r v).inPrefix = s.inPrefix := by cases r <;> rfl

@[simp] theorem setReg8_pfx (s : State) (r : Reg8) (v : Byte) : (s.setReg8 r v).pfx = s.pfx := by cases r <;> rfl

@[simp] theorem setReg8_repeating (s : State) (r : Reg8) (v : Byte) : (s.setReg8 r v).repeating = s.repeating := by cases r <;> rfl

@[simp] theorem setReg8_startIp (s : State) (r : Reg8) (v : Byte) : (s.setReg8 r v).startIp = s.startIp := by cases r <;> rfl

@[simp] theorem setReg8_opIp (s : State) (r : Reg8) (v : Byte) : (s.setReg8 r v).opIp = s.opIp := by cases r <;> rfl

@[simp] theorem setReg8_busLog (s : State) (r : Reg8) (v : Byte) : (s.setReg8 r v).busLog = s.busLog := by cases r <;> rfl

@[simp] theorem setReg8_ioIn (s : State) (r : Reg8) (v : Byte) : (s.setReg8 r v).ioIn = s.ioIn := by cases r <;> rfl

@[simp] theorem setReg8_env (s : State) (r : Reg8) (v : Byte) : (s.setReg8 r v).env = s.env := by cases r <;> rfl

@[simp] theorem setReg8_freeCount (s : State) (r : Reg8) (v : Byte) : (s.setReg8 r v).freeCount = s.freeCount := by cases r <;> rfl

@[simp] theorem setReg8_region (s : State) (r : Reg8) (v : Byte) : (s.setReg8 r v).region = s.region :=
  region_congr (by simp) (by simp) (by simp)

/-! ### `setSReg` -/

@[simp] theorem setSReg_regs (s : State) (r : SReg) (v : Word) : (s.setSReg r v).regs = s.regs := by cases r <;> rfl

@[simp] theorem setSReg_ip (s : State) (r : SReg) (v : Word) : (s.setSReg r v).ip = s.ip := by cases r <;> rfl

@[simp] theorem setSReg_flags (s : State) (r : SReg) (v : Word) : (s.setSReg r v).flags = s.flags := by cases r <;> rfl

@[simp] theorem setSReg_mem (s : State) (r : SReg) (v : Word) : (s.setSReg r v).mem = s.mem := by cases r <;> rfl

@[simp] theorem setSReg_memMap (s : State) (r : SReg) (v : Word) : (s.setSReg r v).memMap = s.memMap := by cases r <;> rfl

@[simp] theorem setSReg_pcbInMemory (s : State) (r : SReg) (v : Word) : (s.setSReg r v).pcbInMemory = s.pcbInMemory := by cases r <;> rfl

@[simp] theorem setSReg_pcbBase (s : State) (r : SReg) (v : Word) : (s.setSReg r v).pcbBase = s.pcbBase := by cases r <;> rfl

@[simp] theorem setSReg_stale (s : State) (r : SReg) (v : Word) : (s.setSReg r v).stale = s.stale := by cases r <;> rfl

@[simp] theorem setSReg_devWrites (s : State) (r : SReg) (v : Word) : (s.setSReg r v).devWrites = s.devWrites := by cases r <;> rfl

@[simp] theorem setSReg_nmiPending (s : State) (r : SReg) (v : Word) : (s.setSReg r v).nmiPending = s.nmiPending := by cases r <;> rfl

@[simp] theorem setSReg_intr (s : State) (r : SReg) (v : Word) : (s.setSReg r v).intr = s.intr := by cases r <;> rfl

@[simp] theorem setSReg_inhibitNext (s : State) (r : SReg) (v : Word) : (s.setSReg r v).inhibitNext = s.inhibitNext := by cases r <;> rfl

@[simp] theorem setSReg_stiShadow (s : State) (r : SReg) (v : Word) : (s.setSReg r v).stiShadow = s.stiShadow := by cases r <;> rfl

@[simp] theorem setSReg_inShadow (s : State) (r : SReg) (v : Word) : (s.setSReg r v).inShadow = s.inShadow := by cases r <;> rfl

@[simp] theorem setSReg_inStiShadow (s : State) (r : SReg) (v : Word) : (s.setSReg r v).inStiShadow = s.inStiShadow := by cases r <;> rfl

@[simp] theorem setSReg_halted (s : State) (r : SReg) (v : Word) : (s.setSReg r v).halted = s.halted := by cases r <;> rfl

@[simp] theorem setSReg_afterWait (s : State) (r : SReg) (v : Word) : (s.setSReg r v).afterWait = s.afterWait := by cases r <;> rfl

@[simp] theorem setSReg_testActive (s : State) (r : SReg) (v : Word) : (s.setSReg r v).testActive = s.testActive := by cases r <;> rfl

@[simp] theorem setSReg_et (s : State) (r : SReg) (v : Word) : (s.setSReg r v).et = s.et := by cases r <;> rfl

@[simp] theorem setSReg_numericsMode (s : State) (r : SReg) (v : Word) : (s.setSReg r v).numericsMode = s.numericsMode := by cases r <;> rfl

@[simp] theorem setSReg_inPrefix (s : State) (r : SReg) (v : Word) : (s.setSReg r v).inPrefix = s.inPrefix := by cases r <;> rfl

@[simp] theorem setSReg_pfx (s : State) (r : SReg) (v : Word) : (s.setSReg r v).pfx = s.pfx := by cases r <;> rfl

@[simp] theorem setSReg_repeating (s : State) (r : SReg) (v : Word) : (s.setSReg r v).repeating = s.repeating := by cases r <;> rfl

@[simp] theorem setSReg_startIp (s : State) (r : SReg) (v : Word) : (s.setSReg r v).startIp = s.startIp := by cases r <;> rfl

@[simp] theorem setSReg_opIp (s : State) (r : SReg) (v : Word) : (s.setSReg r v).opIp = s.opIp := by cases r <;> rfl

@[simp] theorem setSReg_busLog (s : State) (r : SReg) (v : Word) : (s.setSReg r v).busLog = s.busLog := by cases r <;> rfl

@[simp] theorem setSReg_ioIn (s : State) (r : SReg) (v : Word) : (s.setSReg r v).ioIn = s.ioIn := by cases r <;> rfl

@[simp] theorem setSReg_env (s : State) (r : SReg) (v : Word) : (s.setSReg r v).env = s.env := by cases r <;> rfl

@[simp] theorem setSReg_freeCount (s : State) (r : SReg) (v : Word) : (s.setSReg r v).freeCount = s.freeCount := by cases r <;> rfl

@[simp] theorem setSReg_region (s : State) (r : SReg) (v : Word) : (s.setSReg r v).region = s.region :=
  region_congr (by simp) (by simp) (by simp)

/-! ### `setFlags` -/

@[simp] theorem setFlags_regs (s : State) (f : Flags) : (s.setFlags f).regs = s.regs := rfl

@[simp] theorem setFlags_sregs (s : State) (f : Flags) : (s.setFlags f).sregs = s.sregs := rfl

@[simp] theorem setFlags_ip (s : State) (f : Flags) : (s.setFlags f).ip = s.ip := rfl

@[simp] theorem setFlags_flags (s : State) (f : Flags) : (s.setFlags f).flags = f := rfl

@[simp] theorem setFlags_mem (s : State) (f : Flags) : (s.setFlags f).mem = s.mem := rfl

@[simp] theorem setFlags_memMap (s : State) (f : Flags) : (s.setFlags f).memMap = s.memMap := rfl

@[simp] theorem setFlags_pcbInMemory (s : State) (f : Flags) : (s.setFlags f).pcbInMemory = s.pcbInMemory := rfl

@[simp] theorem setFlags_pcbBase (s : State) (f : Flags) : (s.setFlags f).pcbBase = s.pcbBase := rfl

@[simp] theorem setFlags_stale (s : State) (f : Flags) : (s.setFlags f).stale = s.stale := rfl

@[simp] theorem setFlags_devWrites (s : State) (f : Flags) : (s.setFlags f).devWrites = s.devWrites := rfl

@[simp] theorem setFlags_nmiPending (s : State) (f : Flags) : (s.setFlags f).nmiPending = s.nmiPending := rfl

@[simp] theorem setFlags_intr (s : State) (f : Flags) : (s.setFlags f).intr = s.intr := rfl

@[simp] theorem setFlags_inhibitNext (s : State) (f : Flags) : (s.setFlags f).inhibitNext = s.inhibitNext := rfl

@[simp] theorem setFlags_stiShadow (s : State) (f : Flags) : (s.setFlags f).stiShadow = s.stiShadow := rfl

@[simp] theorem setFlags_inShadow (s : State) (f : Flags) : (s.setFlags f).inShadow = s.inShadow := rfl

@[simp] theorem setFlags_inStiShadow (s : State) (f : Flags) : (s.setFlags f).inStiShadow = s.inStiShadow := rfl

@[simp] theorem setFlags_halted (s : State) (f : Flags) : (s.setFlags f).halted = s.halted := rfl

@[simp] theorem setFlags_afterWait (s : State) (f : Flags) : (s.setFlags f).afterWait = s.afterWait := rfl

@[simp] theorem setFlags_testActive (s : State) (f : Flags) : (s.setFlags f).testActive = s.testActive := rfl

@[simp] theorem setFlags_et (s : State) (f : Flags) : (s.setFlags f).et = s.et := rfl

@[simp] theorem setFlags_numericsMode (s : State) (f : Flags) : (s.setFlags f).numericsMode = s.numericsMode := rfl

@[simp] theorem setFlags_inPrefix (s : State) (f : Flags) : (s.setFlags f).inPrefix = s.inPrefix := rfl

@[simp] theorem setFlags_pfx (s : State) (f : Flags) : (s.setFlags f).pfx = s.pfx := rfl

@[simp] theorem setFlags_repeating (s : State) (f : Flags) : (s.setFlags f).repeating = s.repeating := rfl

@[simp] theorem setFlags_startIp (s : State) (f : Flags) : (s.setFlags f).startIp = s.startIp := rfl

@[simp] theorem setFlags_opIp (s : State) (f : Flags) : (s.setFlags f).opIp = s.opIp := rfl

@[simp] theorem setFlags_busLog (s : State) (f : Flags) : (s.setFlags f).busLog = s.busLog := rfl

@[simp] theorem setFlags_ioIn (s : State) (f : Flags) : (s.setFlags f).ioIn = s.ioIn := rfl

@[simp] theorem setFlags_env (s : State) (f : Flags) : (s.setFlags f).env = s.env := rfl

@[simp] theorem setFlags_freeCount (s : State) (f : Flags) : (s.setFlags f).freeCount = s.freeCount := rfl

@[simp] theorem setFlags_region (s : State) (f : Flags) : (s.setFlags f).region = s.region :=
  region_congr (by simp) (by simp) (by simp)

/-! ### `setIp` -/

@[simp] theorem setIp_regs (s : State) (v : Word) : (s.setIp v).regs = s.regs := rfl

@[simp] theorem setIp_sregs (s : State) (v : Word) : (s.setIp v).sregs = s.sregs := rfl

@[simp] theorem setIp_ip (s : State) (v : Word) : (s.setIp v).ip = v := rfl

@[simp] theorem setIp_flags (s : State) (v : Word) : (s.setIp v).flags = s.flags := rfl

@[simp] theorem setIp_mem (s : State) (v : Word) : (s.setIp v).mem = s.mem := rfl

@[simp] theorem setIp_memMap (s : State) (v : Word) : (s.setIp v).memMap = s.memMap := rfl

@[simp] theorem setIp_pcbInMemory (s : State) (v : Word) : (s.setIp v).pcbInMemory = s.pcbInMemory := rfl

@[simp] theorem setIp_pcbBase (s : State) (v : Word) : (s.setIp v).pcbBase = s.pcbBase := rfl

@[simp] theorem setIp_stale (s : State) (v : Word) : (s.setIp v).stale = s.stale := rfl

@[simp] theorem setIp_devWrites (s : State) (v : Word) : (s.setIp v).devWrites = s.devWrites := rfl

@[simp] theorem setIp_nmiPending (s : State) (v : Word) : (s.setIp v).nmiPending = s.nmiPending := rfl

@[simp] theorem setIp_intr (s : State) (v : Word) : (s.setIp v).intr = s.intr := rfl

@[simp] theorem setIp_inhibitNext (s : State) (v : Word) : (s.setIp v).inhibitNext = s.inhibitNext := rfl

@[simp] theorem setIp_stiShadow (s : State) (v : Word) : (s.setIp v).stiShadow = s.stiShadow := rfl

@[simp] theorem setIp_inShadow (s : State) (v : Word) : (s.setIp v).inShadow = s.inShadow := rfl

@[simp] theorem setIp_inStiShadow (s : State) (v : Word) : (s.setIp v).inStiShadow = s.inStiShadow := rfl

@[simp] theorem setIp_halted (s : State) (v : Word) : (s.setIp v).halted = s.halted := rfl

@[simp] theorem setIp_afterWait (s : State) (v : Word) : (s.setIp v).afterWait = s.afterWait := rfl

@[simp] theorem setIp_testActive (s : State) (v : Word) : (s.setIp v).testActive = s.testActive := rfl

@[simp] theorem setIp_et (s : State) (v : Word) : (s.setIp v).et = s.et := rfl

@[simp] theorem setIp_numericsMode (s : State) (v : Word) : (s.setIp v).numericsMode = s.numericsMode := rfl

@[simp] theorem setIp_inPrefix (s : State) (v : Word) : (s.setIp v).inPrefix = s.inPrefix := rfl

@[simp] theorem setIp_pfx (s : State) (v : Word) : (s.setIp v).pfx = s.pfx := rfl

@[simp] theorem setIp_repeating (s : State) (v : Word) : (s.setIp v).repeating = s.repeating := rfl

@[simp] theorem setIp_startIp (s : State) (v : Word) : (s.setIp v).startIp = s.startIp := rfl

@[simp] theorem setIp_opIp (s : State) (v : Word) : (s.setIp v).opIp = s.opIp := rfl

@[simp] theorem setIp_busLog (s : State) (v : Word) : (s.setIp v).busLog = s.busLog := rfl

@[simp] theorem setIp_ioIn (s : State) (v : Word) : (s.setIp v).ioIn = s.ioIn := rfl

@[simp] theorem setIp_env (s : State) (v : Word) : (s.setIp v).env = s.env := rfl

@[simp] theorem setIp_freeCount (s : State) (v : Word) : (s.setIp v).freeCount = s.freeCount := rfl

@[simp] theorem setIp_region (s : State) (v : Word) : (s.setIp v).region = s.region :=
  region_congr (by simp) (by simp) (by simp)

/-! ### `nextFree` -/

@[simp] theorem nextFree_regs (s : State) : s.nextFree.regs = s.regs := rfl

@[simp] theorem nextFree_sregs (s : State) : s.nextFree.sregs = s.sregs := rfl

@[simp] theorem nextFree_ip (s : State) : s.nextFree.ip = s.ip := rfl

@[simp] theorem nextFree_flags (s : State) : s.nextFree.flags = s.flags := rfl

@[simp] theorem nextFree_mem (s : State) : s.nextFree.mem = s.mem := rfl

@[simp] theorem nextFree_memMap (s : State) : s.nextFree.memMap = s.memMap := rfl

@[simp] theorem nextFree_pcbInMemory (s : State) : s.nextFree.pcbInMemory = s.pcbInMemory := rfl

@[simp] theorem nextFree_pcbBase (s : State) : s.nextFree.pcbBase = s.pcbBase := rfl

@[simp] theorem nextFree_stale (s : State) : s.nextFree.stale = s.stale := rfl

@[simp] theorem nextFree_devWrites (s : State) : s.nextFree.devWrites = s.devWrites := rfl

@[simp] theorem nextFree_nmiPending (s : State) : s.nextFree.nmiPending = s.nmiPending := rfl

@[simp] theorem nextFree_intr (s : State) : s.nextFree.intr = s.intr := rfl

@[simp] theorem nextFree_inhibitNext (s : State) : s.nextFree.inhibitNext = s.inhibitNext := rfl

@[simp] theorem nextFree_stiShadow (s : State) : s.nextFree.stiShadow = s.stiShadow := rfl

@[simp] theorem nextFree_inShadow (s : State) : s.nextFree.inShadow = s.inShadow := rfl

@[simp] theorem nextFree_inStiShadow (s : State) : s.nextFree.inStiShadow = s.inStiShadow := rfl

@[simp] theorem nextFree_halted (s : State) : s.nextFree.halted = s.halted := rfl

@[simp] theorem nextFree_afterWait (s : State) : s.nextFree.afterWait = s.afterWait := rfl

@[simp] theorem nextFree_testActive (s : State) : s.nextFree.testActive = s.testActive := rfl

@[simp] theorem nextFree_et (s : State) : s.nextFree.et = s.et := rfl

@[simp] theorem nextFree_numericsMode (s : State) : s.nextFree.numericsMode = s.numericsMode := rfl

@[simp] theorem nextFree_inPrefix (s : State) : s.nextFree.inPrefix = s.inPrefix := rfl

@[simp] theorem nextFree_pfx (s : State) : s.nextFree.pfx = s.pfx := rfl

@[simp] theorem nextFree_repeating (s : State) : s.nextFree.repeating = s.repeating := rfl

@[simp] theorem nextFree_startIp (s : State) : s.nextFree.startIp = s.startIp := rfl

@[simp] theorem nextFree_opIp (s : State) : s.nextFree.opIp = s.opIp := rfl

@[simp] theorem nextFree_busLog (s : State) : s.nextFree.busLog = s.busLog := rfl

@[simp] theorem nextFree_ioIn (s : State) : s.nextFree.ioIn = s.ioIn := rfl

@[simp] theorem nextFree_env (s : State) : s.nextFree.env = s.env := rfl

@[simp] theorem nextFree_freeCount (s : State) : s.nextFree.freeCount = s.freeCount + 1 := rfl

@[simp] theorem nextFree_region (s : State) : s.nextFree.region = s.region :=
  region_congr (by simp) (by simp) (by simp)

/-! ### `jump` -/

@[simp] theorem jump_regs (s : State) (t : Word) : (s.jump t).regs = s.regs := rfl

@[simp] theorem jump_sregs (s : State) (t : Word) : (s.jump t).sregs = s.sregs := rfl

@[simp] theorem jump_ip (s : State) (t : Word) : (s.jump t).ip = t := rfl

@[simp] theorem jump_flags (s : State) (t : Word) : (s.jump t).flags = s.flags := rfl

@[simp] theorem jump_mem (s : State) (t : Word) : (s.jump t).mem = s.mem := rfl

@[simp] theorem jump_memMap (s : State) (t : Word) : (s.jump t).memMap = s.memMap := rfl

@[simp] theorem jump_pcbInMemory (s : State) (t : Word) : (s.jump t).pcbInMemory = s.pcbInMemory := rfl

@[simp] theorem jump_pcbBase (s : State) (t : Word) : (s.jump t).pcbBase = s.pcbBase := rfl

@[simp] theorem jump_stale (s : State) (t : Word) : (s.jump t).stale = [] := rfl

@[simp] theorem jump_devWrites (s : State) (t : Word) : (s.jump t).devWrites = s.devWrites := rfl

@[simp] theorem jump_nmiPending (s : State) (t : Word) : (s.jump t).nmiPending = s.nmiPending := rfl

@[simp] theorem jump_intr (s : State) (t : Word) : (s.jump t).intr = s.intr := rfl

@[simp] theorem jump_inhibitNext (s : State) (t : Word) : (s.jump t).inhibitNext = s.inhibitNext := rfl

@[simp] theorem jump_stiShadow (s : State) (t : Word) : (s.jump t).stiShadow = s.stiShadow := rfl

@[simp] theorem jump_inShadow (s : State) (t : Word) : (s.jump t).inShadow = s.inShadow := rfl

@[simp] theorem jump_inStiShadow (s : State) (t : Word) : (s.jump t).inStiShadow = s.inStiShadow := rfl

@[simp] theorem jump_halted (s : State) (t : Word) : (s.jump t).halted = s.halted := rfl

@[simp] theorem jump_afterWait (s : State) (t : Word) : (s.jump t).afterWait = s.afterWait := rfl

@[simp] theorem jump_testActive (s : State) (t : Word) : (s.jump t).testActive = s.testActive := rfl

@[simp] theorem jump_et (s : State) (t : Word) : (s.jump t).et = s.et := rfl

@[simp] theorem jump_numericsMode (s : State) (t : Word) : (s.jump t).numericsMode = s.numericsMode := rfl

@[simp] theorem jump_inPrefix (s : State) (t : Word) : (s.jump t).inPrefix = s.inPrefix := rfl

@[simp] theorem jump_pfx (s : State) (t : Word) : (s.jump t).pfx = s.pfx := rfl

@[simp] theorem jump_repeating (s : State) (t : Word) : (s.jump t).repeating = s.repeating := rfl

@[simp] theorem jump_startIp (s : State) (t : Word) : (s.jump t).startIp = s.startIp := rfl

@[simp] theorem jump_opIp (s : State) (t : Word) : (s.jump t).opIp = s.opIp := rfl

@[simp] theorem jump_busLog (s : State) (t : Word) : (s.jump t).busLog = s.busLog := rfl

@[simp] theorem jump_ioIn (s : State) (t : Word) : (s.jump t).ioIn = s.ioIn := rfl

@[simp] theorem jump_env (s : State) (t : Word) : (s.jump t).env = s.env := rfl

@[simp] theorem jump_freeCount (s : State) (t : Word) : (s.jump t).freeCount = s.freeCount := rfl

@[simp] theorem jump_region (s : State) (t : Word) : (s.jump t).region = s.region :=
  region_congr (by simp) (by simp) (by simp)

/-! ### `farJump` -/

@[simp] theorem farJump_regs (s : State) (seg off : Word) : (s.farJump seg off).regs = s.regs := rfl

@[simp] theorem farJump_sregs (s : State) (seg off : Word) : (s.farJump seg off).sregs = { s.sregs with cs := seg } := rfl

@[simp] theorem farJump_ip (s : State) (seg off : Word) : (s.farJump seg off).ip = off := rfl

@[simp] theorem farJump_flags (s : State) (seg off : Word) : (s.farJump seg off).flags = s.flags := rfl

@[simp] theorem farJump_mem (s : State) (seg off : Word) : (s.farJump seg off).mem = s.mem := rfl

@[simp] theorem farJump_memMap (s : State) (seg off : Word) : (s.farJump seg off).memMap = s.memMap := rfl

@[simp] theorem farJump_pcbInMemory (s : State) (seg off : Word) : (s.farJump seg off).pcbInMemory = s.pcbInMemory := rfl

@[simp] theorem farJump_pcbBase (s : State) (seg off : Word) : (s.farJump seg off).pcbBase = s.pcbBase := rfl

@[simp] theorem farJump_stale (s : State) (seg off : Word) : (s.farJump seg off).stale = [] := rfl

@[simp] theorem farJump_devWrites (s : State) (seg off : Word) : (s.farJump seg off).devWrites = s.devWrites := rfl

@[simp] theorem farJump_nmiPending (s : State) (seg off : Word) : (s.farJump seg off).nmiPending = s.nmiPending := rfl

@[simp] theorem farJump_intr (s : State) (seg off : Word) : (s.farJump seg off).intr = s.intr := rfl

@[simp] theorem farJump_inhibitNext (s : State) (seg off : Word) : (s.farJump seg off).inhibitNext = s.inhibitNext := rfl

@[simp] theorem farJump_stiShadow (s : State) (seg off : Word) : (s.farJump seg off).stiShadow = s.stiShadow := rfl

@[simp] theorem farJump_inShadow (s : State) (seg off : Word) : (s.farJump seg off).inShadow = s.inShadow := rfl

@[simp] theorem farJump_inStiShadow (s : State) (seg off : Word) : (s.farJump seg off).inStiShadow = s.inStiShadow := rfl

@[simp] theorem farJump_halted (s : State) (seg off : Word) : (s.farJump seg off).halted = s.halted := rfl

@[simp] theorem farJump_afterWait (s : State) (seg off : Word) : (s.farJump seg off).afterWait = s.afterWait := rfl

@[simp] theorem farJump_testActive (s : State) (seg off : Word) : (s.farJump seg off).testActive = s.testActive := rfl

@[simp] theorem farJump_et (s : State) (seg off : Word) : (s.farJump seg off).et = s.et := rfl

@[simp] theorem farJump_numericsMode (s : State) (seg off : Word) : (s.farJump seg off).numericsMode = s.numericsMode := rfl

@[simp] theorem farJump_inPrefix (s : State) (seg off : Word) : (s.farJump seg off).inPrefix = s.inPrefix := rfl

@[simp] theorem farJump_pfx (s : State) (seg off : Word) : (s.farJump seg off).pfx = s.pfx := rfl

@[simp] theorem farJump_repeating (s : State) (seg off : Word) : (s.farJump seg off).repeating = s.repeating := rfl

@[simp] theorem farJump_startIp (s : State) (seg off : Word) : (s.farJump seg off).startIp = s.startIp := rfl

@[simp] theorem farJump_opIp (s : State) (seg off : Word) : (s.farJump seg off).opIp = s.opIp := rfl

@[simp] theorem farJump_busLog (s : State) (seg off : Word) : (s.farJump seg off).busLog = s.busLog := rfl

@[simp] theorem farJump_ioIn (s : State) (seg off : Word) : (s.farJump seg off).ioIn = s.ioIn := rfl

@[simp] theorem farJump_env (s : State) (seg off : Word) : (s.farJump seg off).env = s.env := rfl

@[simp] theorem farJump_freeCount (s : State) (seg off : Word) : (s.farJump seg off).freeCount = s.freeCount := rfl

@[simp] theorem farJump_region (s : State) (seg off : Word) : (s.farJump seg off).region = s.region :=
  region_congr (by simp) (by simp) (by simp)

/-! ### `storeByte` -/

@[simp] theorem storeByte_regs (s : State) (a : Nat) (v : Byte) : (s.storeByte a v).regs = s.regs := by
  unfold State.storeByte; split <;> rfl

@[simp] theorem storeByte_sregs (s : State) (a : Nat) (v : Byte) : (s.storeByte a v).sregs = s.sregs := by
  unfold State.storeByte; split <;> rfl

@[simp] theorem storeByte_ip (s : State) (a : Nat) (v : Byte) : (s.storeByte a v).ip = s.ip := by
  unfold State.storeByte; split <;> rfl

@[simp] theorem storeByte_flags (s : State) (a : Nat) (v : Byte) : (s.storeByte a v).flags = s.flags := by
  unfold State.storeByte; split <;> rfl

@[simp] theorem storeByte_memMap (s : State) (a : Nat) (v : Byte) : (s.storeByte a v).memMap = s.memMap := by
  unfold State.storeByte; split <;> rfl

@[simp] theorem storeByte_pcbInMemory (s : State) (a : Nat) (v : Byte) : (s.storeByte a v).pcbInMemory = s.pcbInMemory := by
  unfold State.storeByte; split <;> rfl

@[simp] theorem storeByte_pcbBase (s : State) (a : Nat) (v : Byte) : (s.storeByte a v).pcbBase = s.pcbBase := by
  unfold State.storeByte; split <;> rfl

@[simp] theorem storeByte_nmiPending (s : State) (a : Nat) (v : Byte) : (s.storeByte a v).nmiPending = s.nmiPending := by
  unfold State.storeByte; split <;> rfl

@[simp] theorem storeByte_intr (s : State) (a : Nat) (v : Byte) : (s.storeByte a v).intr = s.intr := by
  unfold State.storeByte; split <;> rfl

@[simp] theorem storeByte_inhibitNext (s : State) (a : Nat) (v : Byte) : (s.storeByte a v).inhibitNext = s.inhibitNext := by
  unfold State.storeByte; split <;> rfl

@[simp] theorem storeByte_stiShadow (s : State) (a : Nat) (v : Byte) : (s.storeByte a v).stiShadow = s.stiShadow := by
  unfold State.storeByte; split <;> rfl

@[simp] theorem storeByte_inShadow (s : State) (a : Nat) (v : Byte) : (s.storeByte a v).inShadow = s.inShadow := by
  unfold State.storeByte; split <;> rfl

@[simp] theorem storeByte_inStiShadow (s : State) (a : Nat) (v : Byte) : (s.storeByte a v).inStiShadow = s.inStiShadow := by
  unfold State.storeByte; split <;> rfl

@[simp] theorem storeByte_halted (s : State) (a : Nat) (v : Byte) : (s.storeByte a v).halted = s.halted := by
  unfold State.storeByte; split <;> rfl

@[simp] theorem storeByte_afterWait (s : State) (a : Nat) (v : Byte) : (s.storeByte a v).afterWait = s.afterWait := by
  unfold State.storeByte; split <;> rfl

@[simp] theorem storeByte_testActive (s : State) (a : Nat) (v : Byte) : (s.storeByte a v).testActive = s.testActive := by
  unfold State.storeByte; split <;> rfl

@[simp] theorem storeByte_et (s : State) (a : Nat) (v : Byte) : (s.storeByte a v).et = s.et := by
  unfold State.storeByte; split <;> rfl

@[simp] theorem storeByte_numericsMode (s : State) (a : Nat) (v : Byte) : (s.storeByte a v).numericsMode = s.numericsMode := by
  unfold State.storeByte; split <;> rfl

@[simp] theorem storeByte_inPrefix (s : State) (a : Nat) (v : Byte) : (s.storeByte a v).inPrefix = s.inPrefix := by
  unfold State.storeByte; split <;> rfl

@[simp] theorem storeByte_pfx (s : State) (a : Nat) (v : Byte) : (s.storeByte a v).pfx = s.pfx := by
  unfold State.storeByte; split <;> rfl

@[simp] theorem storeByte_repeating (s : State) (a : Nat) (v : Byte) : (s.storeByte a v).repeating = s.repeating := by
  unfold State.storeByte; split <;> rfl

@[simp] theorem storeByte_startIp (s : State) (a : Nat) (v : Byte) : (s.storeByte a v).startIp = s.startIp := by
  unfold State.storeByte; split <;> rfl

@[simp] theorem storeByte_opIp (s : State) (a : Nat) (v : Byte) : (s.storeByte a v).opIp = s.opIp := by
  unfold State.storeByte; split <;> rfl

@[simp] theorem storeByte_busLog (s : State) (a : Nat) (v : Byte) : (s.storeByte a v).busLog = s.busLog := by
  unfold State.storeByte; split <;> rfl

@[simp] theorem storeByte_ioIn (s : State) (a : Nat) (v : Byte) : (s.storeByte a v).ioIn = s.ioIn := by
  unfold State.storeByte; split <;> rfl

@[simp] theorem storeByte_env (s : State) (a : Nat) (v : Byte) : (s.storeByte a v).env = s.env := by
  unfold State.storeByte; split <;> rfl

@[simp] theorem storeByte_freeCount (s : State) (a : Nat) (v : Byte) : (s.storeByte a v).freeCount = s.freeCount := by
  unfold State.storeByte; split <;> rfl

@[simp] theorem storeByte_region (s : State) (a : Nat) (v : Byte) : (s.storeByte a v).region = s.region :=
  region_congr (by simp) (by simp) (by simp)

/-! ### `storeWord` -/

@[simp] theorem storeWord_regs (s : State) (a : Nat) (v : Word) : (s.storeWord a v).regs = s.regs := by simp [State.storeWord]

@[simp] theorem storeWord_sregs (s : State) (a : Nat) (v : Word) : (s.storeWord a v).sregs = s.sregs := by simp [State.storeWord]

@[simp] theorem storeWord_ip (s : State) (a : Nat) (v : Word) : (s.storeWord a v).ip = s.ip := by simp [State.storeWord]

@[simp] theorem storeWord_flags (s : State) (a : Nat) (v : Word) : (s.storeWord a v).flags = s.flags := by simp [State.storeWord]

@[simp] theorem storeWord_memMap (s : State) (a : Nat) (v : Word) : (s.storeWord a v).memMap = s.memMap := by simp [State.storeWord]

@[simp] theorem storeWord_pcbInMemory (s : State) (a : Nat) (v : Word) : (s.storeWord a v).pcbInMemory = s.pcbInMemory := by simp [State.storeWord]

@[simp] theorem storeWord_pcbBase (s : State) (a : Nat) (v : Word) : (s.storeWord a v).pcbBase = s.pcbBase := by simp [State.storeWord]

@[simp] theorem storeWord_nmiPending (s : State) (a : Nat) (v : Word) : (s.storeWord a v).nmiPending = s.nmiPending := by simp [State.storeWord]

@[simp] theorem storeWord_intr (s : State) (a : Nat) (v : Word) : (s.storeWord a v).intr = s.intr := by simp [State.storeWord]

@[simp] theorem storeWord_inhibitNext (s : State) (a : Nat) (v : Word) : (s.storeWord a v).inhibitNext = s.inhibitNext := by simp [State.storeWord]

@[simp] theorem storeWord_stiShadow (s : State) (a : Nat) (v : Word) : (s.storeWord a v).stiShadow = s.stiShadow := by simp [State.storeWord]

@[simp] theorem storeWord_inShadow (s : State) (a : Nat) (v : Word) : (s.storeWord a v).inShadow = s.inShadow := by simp [State.storeWord]

@[simp] theorem storeWord_inStiShadow (s : State) (a : Nat) (v : Word) : (s.storeWord a v).inStiShadow = s.inStiShadow := by simp [State.storeWord]

@[simp] theorem storeWord_halted (s : State) (a : Nat) (v : Word) : (s.storeWord a v).halted = s.halted := by simp [State.storeWord]

@[simp] theorem storeWord_afterWait (s : State) (a : Nat) (v : Word) : (s.storeWord a v).afterWait = s.afterWait := by simp [State.storeWord]

@[simp] theorem storeWord_testActive (s : State) (a : Nat) (v : Word) : (s.storeWord a v).testActive = s.testActive := by simp [State.storeWord]

@[simp] theorem storeWord_et (s : State) (a : Nat) (v : Word) : (s.storeWord a v).et = s.et := by simp [State.storeWord]

@[simp] theorem storeWord_numericsMode (s : State) (a : Nat) (v : Word) : (s.storeWord a v).numericsMode = s.numericsMode := by simp [State.storeWord]

@[simp] theorem storeWord_inPrefix (s : State) (a : Nat) (v : Word) : (s.storeWord a v).inPrefix = s.inPrefix := by simp [State.storeWord]

@[simp] theorem storeWord_pfx (s : State) (a : Nat) (v : Word) : (s.storeWord a v).pfx = s.pfx := by simp [State.storeWord]

@[simp] theorem storeWord_repeating (s : State) (a : Nat) (v : Word) : (s.storeWord a v).repeating = s.repeating := by simp [State.storeWord]

@[simp] theorem storeWord_startIp (s : State) (a : Nat) (v : Word) : (s.storeWord a v).startIp = s.startIp := by simp [State.storeWord]

@[simp] theorem storeWord_opIp (s : State) (a : Nat) (v : Word) : (s.storeWord a v).opIp = s.opIp := by simp [State.storeWord]

@[simp] theorem storeWord_busLog (s : State) (a : Nat) (v : Word) : (s.storeWord a v).busLog = s.busLog := by simp [State.storeWord]

@[simp] theorem storeWord_ioIn (s : State) (a : Nat) (v : Word) : (s.storeWord a v).ioIn = s.ioIn := by simp [State.storeWord]

@[simp] theorem storeWord_env (s : State) (a : Nat) (v : Word) : (s.storeWord a v).env = s.env := by simp [State.storeWord]

@[simp] theorem storeWord_freeCount (s : State) (a : Nat) (v : Word) : (s.storeWord a v).freeCount = s.freeCount := by simp [State.storeWord]

@[simp] theorem storeWord_region (s : State) (a : Nat) (v : Word) : (s.storeWord a v).region = s.region :=
  region_congr (by simp) (by simp) (by simp)

/-! ### `logEvents` -/

@[simp] theorem logEvents_regs (s : State) (es : List BusEvent) : (s.logEvents es).regs = s.regs := rfl

@[simp] theorem logEvents_sregs (s : State) (es : List BusEvent) : (s.logEvents es).sregs = s.sregs := rfl

@[simp] theorem logEvents_ip (s : State) (es : List BusEvent) : (s.logEvents es).ip = s.ip := rfl

@[simp] theorem logEvents_flags (s : State) (es : List BusEvent) : (s.logEvents es).flags = s.flags := rfl

@[simp] theorem logEvents_mem (s : State) (es : List BusEvent) : (s.logEvents es).mem = s.mem := rfl

@[simp] theorem logEvents_memMap (s : State) (es : List BusEvent) : (s.logEvents es).memMap = s.memMap := rfl

@[simp] theorem logEvents_pcbInMemory (s : State) (es : List BusEvent) : (s.logEvents es).pcbInMemory = s.pcbInMemory := rfl

@[simp] theorem logEvents_pcbBase (s : State) (es : List BusEvent) : (s.logEvents es).pcbBase = s.pcbBase := rfl

@[simp] theorem logEvents_stale (s : State) (es : List BusEvent) : (s.logEvents es).stale = s.stale := rfl

@[simp] theorem logEvents_devWrites (s : State) (es : List BusEvent) : (s.logEvents es).devWrites = s.devWrites := rfl

@[simp] theorem logEvents_nmiPending (s : State) (es : List BusEvent) : (s.logEvents es).nmiPending = s.nmiPending := rfl

@[simp] theorem logEvents_intr (s : State) (es : List BusEvent) : (s.logEvents es).intr = s.intr := rfl

@[simp] theorem logEvents_inhibitNext (s : State) (es : List BusEvent) : (s.logEvents es).inhibitNext = s.inhibitNext := rfl

@[simp] theorem logEvents_stiShadow (s : State) (es : List BusEvent) : (s.logEvents es).stiShadow = s.stiShadow := rfl

@[simp] theorem logEvents_inShadow (s : State) (es : List BusEvent) : (s.logEvents es).inShadow = s.inShadow := rfl

@[simp] theorem logEvents_inStiShadow (s : State) (es : List BusEvent) : (s.logEvents es).inStiShadow = s.inStiShadow := rfl

@[simp] theorem logEvents_halted (s : State) (es : List BusEvent) : (s.logEvents es).halted = s.halted := rfl

@[simp] theorem logEvents_afterWait (s : State) (es : List BusEvent) : (s.logEvents es).afterWait = s.afterWait := rfl

@[simp] theorem logEvents_testActive (s : State) (es : List BusEvent) : (s.logEvents es).testActive = s.testActive := rfl

@[simp] theorem logEvents_et (s : State) (es : List BusEvent) : (s.logEvents es).et = s.et := rfl

@[simp] theorem logEvents_numericsMode (s : State) (es : List BusEvent) : (s.logEvents es).numericsMode = s.numericsMode := rfl

@[simp] theorem logEvents_inPrefix (s : State) (es : List BusEvent) : (s.logEvents es).inPrefix = s.inPrefix := rfl

@[simp] theorem logEvents_pfx (s : State) (es : List BusEvent) : (s.logEvents es).pfx = s.pfx := rfl

@[simp] theorem logEvents_repeating (s : State) (es : List BusEvent) : (s.logEvents es).repeating = s.repeating := rfl

@[simp] theorem logEvents_startIp (s : State) (es : List BusEvent) : (s.logEvents es).startIp = s.startIp := rfl

@[simp] theorem logEvents_opIp (s : State) (es : List BusEvent) : (s.logEvents es).opIp = s.opIp := rfl

@[simp] theorem logEvents_busLog (s : State) (es : List BusEvent) : (s.logEvents es).busLog = s.busLog ++ es := rfl

@[simp] theorem logEvents_ioIn (s : State) (es : List BusEvent) : (s.logEvents es).ioIn = s.ioIn := rfl

@[simp] theorem logEvents_env (s : State) (es : List BusEvent) : (s.logEvents es).env = s.env := rfl

@[simp] theorem logEvents_freeCount (s : State) (es : List BusEvent) : (s.logEvents es).freeCount = s.freeCount := rfl

@[simp] theorem logEvents_region (s : State) (es : List BusEvent) : (s.logEvents es).region = s.region :=
  region_congr (by simp) (by simp) (by simp)

/-! ### `holdShadows` -/

@[simp] theorem holdShadows_regs (s : State) : s.holdShadows.regs = s.regs := rfl

@[simp] theorem holdShadows_sregs (s : State) : s.holdShadows.sregs = s.sregs := rfl

@[simp] theorem holdShadows_ip (s : State) : s.holdShadows.ip = s.ip := rfl

@[simp] theorem holdShadows_flags (s : State) : s.holdShadows.flags = s.flags := rfl

@[simp] theorem holdShadows_mem (s : State) : s.holdShadows.mem = s.mem := rfl

@[simp] theorem holdShadows_memMap (s : State) : s.holdShadows.memMap = s.memMap := rfl

@[simp] theorem holdShadows_pcbInMemory (s : State) : s.holdShadows.pcbInMemory = s.pcbInMemory := rfl

@[simp] theorem holdShadows_pcbBase (s : State) : s.holdShadows.pcbBase = s.pcbBase := rfl

@[simp] theorem holdShadows_stale (s : State) : s.holdShadows.stale = s.stale := rfl

@[simp] theorem holdShadows_devWrites (s : State) : s.holdShadows.devWrites = s.devWrites := rfl

@[simp] theorem holdShadows_nmiPending (s : State) : s.holdShadows.nmiPending = s.nmiPending := rfl

@[simp] theorem holdShadows_intr (s : State) : s.holdShadows.intr = s.intr := rfl

@[simp] theorem holdShadows_inhibitNext (s : State) : s.holdShadows.inhibitNext = s.inShadow := rfl

@[simp] theorem holdShadows_stiShadow (s : State) : s.holdShadows.stiShadow = s.inStiShadow := rfl

@[simp] theorem holdShadows_inShadow (s : State) : s.holdShadows.inShadow = s.inShadow := rfl

@[simp] theorem holdShadows_inStiShadow (s : State) : s.holdShadows.inStiShadow = s.inStiShadow := rfl

@[simp] theorem holdShadows_halted (s : State) : s.holdShadows.halted = s.halted := rfl

@[simp] theorem holdShadows_afterWait (s : State) : s.holdShadows.afterWait = s.afterWait := rfl

@[simp] theorem holdShadows_testActive (s : State) : s.holdShadows.testActive = s.testActive := rfl

@[simp] theorem holdShadows_et (s : State) : s.holdShadows.et = s.et := rfl

@[simp] theorem holdShadows_numericsMode (s : State) : s.holdShadows.numericsMode = s.numericsMode := rfl

@[simp] theorem holdShadows_inPrefix (s : State) : s.holdShadows.inPrefix = s.inPrefix := rfl

@[simp] theorem holdShadows_pfx (s : State) : s.holdShadows.pfx = s.pfx := rfl

@[simp] theorem holdShadows_repeating (s : State) : s.holdShadows.repeating = s.repeating := rfl

@[simp] theorem holdShadows_startIp (s : State) : s.holdShadows.startIp = s.startIp := rfl

@[simp] theorem holdShadows_opIp (s : State) : s.holdShadows.opIp = s.opIp := rfl

@[simp] theorem holdShadows_busLog (s : State) : s.holdShadows.busLog = s.busLog := rfl

@[simp] theorem holdShadows_ioIn (s : State) : s.holdShadows.ioIn = s.ioIn := rfl

@[simp] theorem holdShadows_env (s : State) : s.holdShadows.env = s.env := rfl

@[simp] theorem holdShadows_freeCount (s : State) : s.holdShadows.freeCount = s.freeCount := rfl

@[simp] theorem holdShadows_region (s : State) : s.holdShadows.region = s.region :=
  region_congr (by simp) (by simp) (by simp)

/-! ### `endContext` -/

@[simp] theorem endContext_regs (s : State) : s.endContext.regs = s.regs := rfl

@[simp] theorem endContext_sregs (s : State) : s.endContext.sregs = s.sregs := rfl

@[simp] theorem endContext_ip (s : State) : s.endContext.ip = s.ip := rfl

@[simp] theorem endContext_flags (s : State) : s.endContext.flags = s.flags := rfl

@[simp] theorem endContext_mem (s : State) : s.endContext.mem = s.mem := rfl

@[simp] theorem endContext_memMap (s : State) : s.endContext.memMap = s.memMap := rfl

@[simp] theorem endContext_pcbInMemory (s : State) : s.endContext.pcbInMemory = s.pcbInMemory := rfl

@[simp] theorem endContext_pcbBase (s : State) : s.endContext.pcbBase = s.pcbBase := rfl

@[simp] theorem endContext_stale (s : State) : s.endContext.stale = s.stale := rfl

@[simp] theorem endContext_devWrites (s : State) : s.endContext.devWrites = s.devWrites := rfl

@[simp] theorem endContext_nmiPending (s : State) : s.endContext.nmiPending = s.nmiPending := rfl

@[simp] theorem endContext_intr (s : State) : s.endContext.intr = s.intr := rfl

@[simp] theorem endContext_inhibitNext (s : State) : s.endContext.inhibitNext = s.inhibitNext := rfl

@[simp] theorem endContext_stiShadow (s : State) : s.endContext.stiShadow = s.stiShadow := rfl

@[simp] theorem endContext_inShadow (s : State) : s.endContext.inShadow = s.inShadow := rfl

@[simp] theorem endContext_inStiShadow (s : State) : s.endContext.inStiShadow = s.inStiShadow := rfl

@[simp] theorem endContext_halted (s : State) : s.endContext.halted = false := rfl

@[simp] theorem endContext_afterWait (s : State) : s.endContext.afterWait = s.afterWait := rfl

@[simp] theorem endContext_testActive (s : State) : s.endContext.testActive = s.testActive := rfl

@[simp] theorem endContext_et (s : State) : s.endContext.et = s.et := rfl

@[simp] theorem endContext_numericsMode (s : State) : s.endContext.numericsMode = s.numericsMode := rfl

@[simp] theorem endContext_inPrefix (s : State) : s.endContext.inPrefix = false := rfl

@[simp] theorem endContext_pfx (s : State) : s.endContext.pfx = Prefixes.none := rfl

@[simp] theorem endContext_repeating (s : State) : s.endContext.repeating = none := rfl

@[simp] theorem endContext_startIp (s : State) : s.endContext.startIp = s.startIp := rfl

@[simp] theorem endContext_opIp (s : State) : s.endContext.opIp = s.opIp := rfl

@[simp] theorem endContext_busLog (s : State) : s.endContext.busLog = s.busLog := rfl

@[simp] theorem endContext_ioIn (s : State) : s.endContext.ioIn = s.ioIn := rfl

@[simp] theorem endContext_env (s : State) : s.endContext.env = s.env := rfl

@[simp] theorem endContext_freeCount (s : State) : s.endContext.freeCount = s.freeCount := rfl

@[simp] theorem endContext_region (s : State) : s.endContext.region = s.region :=
  region_congr (by simp) (by simp) (by simp)

/-! ### `setPins` -/

@[simp] theorem setPins_regs (s : State) (e : EnvInput) : (s.setPins e).regs = s.regs := rfl

@[simp] theorem setPins_sregs (s : State) (e : EnvInput) : (s.setPins e).sregs = s.sregs := rfl

@[simp] theorem setPins_ip (s : State) (e : EnvInput) : (s.setPins e).ip = s.ip := rfl

@[simp] theorem setPins_flags (s : State) (e : EnvInput) : (s.setPins e).flags = s.flags := rfl

@[simp] theorem setPins_mem (s : State) (e : EnvInput) : (s.setPins e).mem = s.mem := rfl

@[simp] theorem setPins_memMap (s : State) (e : EnvInput) : (s.setPins e).memMap = s.memMap := rfl

@[simp] theorem setPins_pcbInMemory (s : State) (e : EnvInput) : (s.setPins e).pcbInMemory = s.pcbInMemory := rfl

@[simp] theorem setPins_pcbBase (s : State) (e : EnvInput) : (s.setPins e).pcbBase = s.pcbBase := rfl

@[simp] theorem setPins_stale (s : State) (e : EnvInput) : (s.setPins e).stale = s.stale := rfl

@[simp] theorem setPins_devWrites (s : State) (e : EnvInput) : (s.setPins e).devWrites = s.devWrites := rfl

@[simp] theorem setPins_nmiPending (s : State) (e : EnvInput) : (s.setPins e).nmiPending = (s.nmiPending || e.nmiEdge) := rfl

@[simp] theorem setPins_intr (s : State) (e : EnvInput) : (s.setPins e).intr = e.intr := rfl

@[simp] theorem setPins_inhibitNext (s : State) (e : EnvInput) : (s.setPins e).inhibitNext = s.inhibitNext := rfl

@[simp] theorem setPins_stiShadow (s : State) (e : EnvInput) : (s.setPins e).stiShadow = s.stiShadow := rfl

@[simp] theorem setPins_inShadow (s : State) (e : EnvInput) : (s.setPins e).inShadow = s.inShadow := rfl

@[simp] theorem setPins_inStiShadow (s : State) (e : EnvInput) : (s.setPins e).inStiShadow = s.inStiShadow := rfl

@[simp] theorem setPins_halted (s : State) (e : EnvInput) : (s.setPins e).halted = s.halted := rfl

@[simp] theorem setPins_afterWait (s : State) (e : EnvInput) : (s.setPins e).afterWait = s.afterWait := rfl

@[simp] theorem setPins_testActive (s : State) (e : EnvInput) : (s.setPins e).testActive = e.test := rfl

@[simp] theorem setPins_et (s : State) (e : EnvInput) : (s.setPins e).et = s.et := rfl

@[simp] theorem setPins_numericsMode (s : State) (e : EnvInput) : (s.setPins e).numericsMode = s.numericsMode := rfl

@[simp] theorem setPins_inPrefix (s : State) (e : EnvInput) : (s.setPins e).inPrefix = s.inPrefix := rfl

@[simp] theorem setPins_pfx (s : State) (e : EnvInput) : (s.setPins e).pfx = s.pfx := rfl

@[simp] theorem setPins_repeating (s : State) (e : EnvInput) : (s.setPins e).repeating = s.repeating := rfl

@[simp] theorem setPins_startIp (s : State) (e : EnvInput) : (s.setPins e).startIp = s.startIp := rfl

@[simp] theorem setPins_opIp (s : State) (e : EnvInput) : (s.setPins e).opIp = s.opIp := rfl

@[simp] theorem setPins_busLog (s : State) (e : EnvInput) : (s.setPins e).busLog = s.busLog := rfl

@[simp] theorem setPins_ioIn (s : State) (e : EnvInput) : (s.setPins e).ioIn = s.ioIn := rfl

@[simp] theorem setPins_env (s : State) (e : EnvInput) : (s.setPins e).env = s.env := rfl

@[simp] theorem setPins_freeCount (s : State) (e : EnvInput) : (s.setPins e).freeCount = s.freeCount := rfl

@[simp] theorem setPins_region (s : State) (e : EnvInput) : (s.setPins e).region = s.region :=
  region_congr (by simp) (by simp) (by simp)

/-! ### Registers read after an update -/

@[simp] theorem reg16_setReg16_same (s : State) (r : Reg16) (v : Word) : (s.setReg16 r v).reg16 r = v := by cases r <;> rfl

theorem reg16_setReg16_ne (s : State) {r x : Reg16} (v : Word) (h : x ≠ r) : (s.setReg16 r v).reg16 x = s.reg16 x := by
  cases r <;> cases x <;> first | rfl | exact absurd rfl h

@[simp] theorem sreg_setSReg_same (s : State) (r : SReg) (v : Word) : (s.setSReg r v).sreg r = v := by cases r <;> rfl

theorem sreg_setSReg_ne (s : State) {r x : SReg} (v : Word) (h : x ≠ r) : (s.setSReg r v).sreg x = s.sreg x := by
  cases r <;> cases x <;> first | rfl | exact absurd rfl h

/-- A register is a function of the register file alone. -/
theorem reg16_congr {s t : State} (h : t.regs = s.regs) (r : Reg16) : t.reg16 r = s.reg16 r := by
  cases r <;> simp [State.reg16, h]

theorem reg8_congr {s t : State} (h : t.regs = s.regs) (r : Reg8) : t.reg8 r = s.reg8 r := by
  simp [State.reg8, reg16_congr h]

theorem sreg_congr {s t : State} (h : t.sregs = s.sregs) (r : SReg) : t.sreg r = s.sreg r := by
  cases r <;> simp [State.sreg, h]

@[simp] theorem lowByte_joinBytes (lo hi : Byte) : lowByte (joinBytes lo hi) = lo := by
  unfold lowByte joinBytes; ext i h
  simp only [← BitVec.getLsbD_eq_getElem, BitVec.getLsbD_append, BitVec.getLsbD_setWidth]
  simp [h]

@[simp] theorem highByte_joinBytes (lo hi : Byte) : highByte (joinBytes lo hi) = hi := by
  unfold highByte joinBytes; ext i h
  simp only [← BitVec.getLsbD_eq_getElem, BitVec.getLsbD_append, BitVec.getLsbD_setWidth, BitVec.getLsbD_ushiftRight]
  simp [h]

@[simp] theorem joinBytes_halves (v : Word) : joinBytes (lowByte v) (highByte v) = v := by
  unfold lowByte highByte joinBytes; ext i h
  simp only [← BitVec.getLsbD_eq_getElem, BitVec.getLsbD_append, BitVec.getLsbD_setWidth, BitVec.getLsbD_ushiftRight]
  split
  · simp_all
  · have h8 : i - 8 < 8 := by omega
    have : 8 + (i - 8) = i := by omega
    simp [h8, this]

theorem reg8_setReg8_same (s : State) (r : Reg8) (v : Byte) : (s.setReg8 r v).reg8 r = v := by
  cases r <;> simp [State.setReg8, State.reg8, wholeReg, isHighHalf]

theorem reg8_setReg8_ne (s : State) {r x : Reg8} (v : Byte) (h : x ≠ r) : (s.setReg8 r v).reg8 x = s.reg8 x := by
  cases r <;> cases x <;>
    first
    | exact absurd rfl h
    | simp [State.setReg8, State.reg8, State.setReg16, State.reg16, wholeReg, isHighHalf]

/-- A byte register lies in AX, BX, CX or DX: the pointer and index registers stay. -/
theorem setReg8_pointers (s : State) (r : Reg8) (v : Byte) :
    (s.setReg8 r v).regs.sp = s.regs.sp ∧ (s.setReg8 r v).regs.bp = s.regs.bp ∧ (s.setReg8 r v).regs.si = s.regs.si ∧
      (s.setReg8 r v).regs.di = s.regs.di := by cases r <;> exact ⟨rfl, rfl, rfl, rfl⟩

end Sys2Proof.Laws
end

