-- ==== Sys2Proof/Laws/Memory.lean ====
section
/-! SUPPORT. The laws of memory: a read after a write, and the canonical form that every memory operation keeps. -/

namespace Sys2Proof.Laws

open Sys2Proof Sys2Proof.Machine

/-! ### The list -/

theorem read_erase_same (m : Memory) (a : Nat) : Memory.read (Memory.erase m a) a = 0 := by
  induction m with
  | nil => rfl
  | cons c m ih =>
    obtain ⟨b, v⟩ := c
    unfold Memory.erase
    split
    · exact ih
    · simp [Memory.read, *]

theorem read_erase_ne (m : Memory) {a b : Nat} (h : b ≠ a) : Memory.read (Memory.erase m a) b = Memory.read m b := by
  induction m with
  | nil => rfl
  | cons c m ih =>
    obtain ⟨x, v⟩ := c
    unfold Memory.erase
    split
    · rename_i hx
      subst hx
      rw [ih, Memory.read, if_neg (Ne.symm h)]
    · simp [Memory.read, ih]

theorem mem_erase {m : Memory} {a : Nat} {c : Host.Cell} (h : c ∈ Memory.erase m a) : c ∈ m ∧ c.1 ≠ a := by
  induction m with
  | nil => exact absurd h (by simp [Memory.erase])
  | cons d m ih =>
    obtain ⟨b, v⟩ := d
    unfold Memory.erase at h
    split at h
    · exact ⟨List.mem_cons_of_mem _ (ih h).1, (ih h).2⟩
    · rcases List.mem_cons.mp h with rfl | h
      · exact ⟨List.mem_cons_self, by assumption⟩
      · exact ⟨List.mem_cons_of_mem _ (ih h).1, (ih h).2⟩

theorem read_insert (m : Memory) (a b : Nat) (v : Byte) (h : ∀ c ∈ m, c.1 ≠ a) :
    Memory.read (Memory.insert m a v) b = if b = a then v else Memory.read m b := by
  induction m with
  | nil => simp [Memory.insert, Memory.read, eq_comm]
  | cons d m ih =>
    obtain ⟨x, w⟩ := d
    have hx : x ≠ a := h (x, w) List.mem_cons_self
    have hm : ∀ c ∈ m, c.1 ≠ a := fun c hc => h c (List.mem_cons_of_mem _ hc)
    unfold Memory.insert
    split
    · by_cases hb : b = a
      · subst hb; simp [Memory.read]
      · simp [Memory.read, hb, Ne.symm hb]
    · by_cases hb : b = a
      · subst hb; simp [Memory.read, ih hm, hx]
      · simp [Memory.read, ih hm, hb]

theorem mem_insert {m : Memory} {a : Nat} {v : Byte} {c : Host.Cell} :
    c ∈ Memory.insert m a v → c = (a, v) ∨ c ∈ m := by
  induction m with
  | nil => simp [Memory.insert]
  | cons d m ih =>
    obtain ⟨x, w⟩ := d
    unfold Memory.insert
    split
    · simp
    · intro h
      rcases List.mem_cons.mp h with rfl | h
      · simp
      · rcases ih h with h | h
        · exact .inl h
        · exact .inr (List.mem_cons_of_mem _ h)

/-- A read after a write: the value written, or what was there. -/
theorem read_write (m : Memory) (a b : Nat) (v : Byte) :
    Memory.read (Memory.write m a v) b = if b = a then v else Memory.read m b := by
  unfold Memory.write
  split
  · rename_i hv
    by_cases hb : b = a
    · subst hb; simp [read_erase_same, hv]
    · simp [read_erase_ne m hb, hb]
  · rw [read_insert _ _ _ _ fun c hc => (mem_erase hc).2]
    by_cases hb : b = a
    · simp [hb]
    · simp [hb, read_erase_ne m hb]

theorem read_write_same (m : Memory) (a : Nat) (v : Byte) : Memory.read (Memory.write m a v) a = v := by simp [read_write]

theorem read_write_ne (m : Memory) {a b : Nat} (v : Byte) (h : b ≠ a) :
    Memory.read (Memory.write m a v) b = Memory.read m b := by simp [read_write, h]

/-! ### The canonical form -/

theorem pairwise_erase {m : Memory} (a : Nat) (h : List.Pairwise (fun c d : Host.Cell => c.1 < d.1) m) :
    List.Pairwise (fun c d : Host.Cell => c.1 < d.1) (Memory.erase m a) := by
  induction m with
  | nil => exact h
  | cons d m ih =>
    obtain ⟨b, v⟩ := d
    obtain ⟨hd, hm⟩ := List.pairwise_cons.mp h
    unfold Memory.erase
    split
    · exact ih hm
    · exact List.pairwise_cons.mpr ⟨fun c hc => hd c (mem_erase hc).1, ih hm⟩

theorem pairwise_insert {m : Memory} (a : Nat) (v : Byte) (h : List.Pairwise (fun c d : Host.Cell => c.1 < d.1) m)
    (ha : ∀ c ∈ m, c.1 ≠ a) : List.Pairwise (fun c d : Host.Cell => c.1 < d.1) (Memory.insert m a v) := by
  induction m with
  | nil => exact List.pairwise_singleton _ _
  | cons d m ih =>
    obtain ⟨x, w⟩ := d
    obtain ⟨hd, hm⟩ := List.pairwise_cons.mp h
    have hx : x ≠ a := ha (x, w) List.mem_cons_self
    unfold Memory.insert
    split
    · rename_i hlt
      refine List.pairwise_cons.mpr ⟨fun c hc => ?_, h⟩
      rcases List.mem_cons.mp hc with rfl | hc
      · exact hlt
      · exact Nat.lt_trans hlt (hd c hc)
    · rename_i hlt
      refine List.pairwise_cons.mpr ⟨fun c hc => ?_, ih hm fun c hc => ha c (List.mem_cons_of_mem _ hc)⟩
      rcases mem_insert hc with rfl | hc
      · show x < a; omega
      · exact hd c hc

/-- The empty memory is in canonical form. -/
theorem wf_nil : Memory.wf [] := by simp [Memory.wf]

/-- A write inside the space keeps the canonical form. -/
theorem wf_write {m : Memory} {a : Nat} (v : Byte) (h : Memory.wf m) (ha : a < memSize) : Memory.wf (Memory.write m a v) := by
  obtain ⟨hp, hc⟩ := h
  unfold Memory.write
  split
  · exact ⟨pairwise_erase a hp, fun c h => hc c (mem_erase h).1⟩
  · rename_i hv
    refine ⟨pairwise_insert a v (pairwise_erase a hp) fun _ h => (mem_erase h).2, fun c h => ?_⟩
    rcases mem_insert h with rfl | h
    · exact ⟨ha, hv⟩
    · exact hc c (mem_erase h).1

/-- Reset's memory is in canonical form. -/
theorem reset_mem_wf : Memory.wf State.reset.mem := wf_nil

/-! ### Addresses -/

theorem phys_lt (seg off : Word) : phys seg off < memSize := Nat.mod_lt _ (by decide)

theorem nextAddr_lt (a : Nat) : nextAddr a < memSize := Nat.mod_lt _ (by decide)

theorem nextAddr_ne (a : Nat) : nextAddr a ≠ a := by
  unfold nextAddr memSize; omega

theorem phys_nextAddr_ne (seg off : Word) : nextAddr (phys seg off) ≠ phys seg off := nextAddr_ne _

/-- Below offset 0FFFFH the next address is the next offset's. -/
theorem nextAddr_phys (seg : Word) {off : Word} (h : off ≠ 0xFFFF#16) : nextAddr (phys seg off) = phys seg (off + 1) := by
  have h' : off.toNat ≠ 65535 := fun e => h (BitVec.eq_of_toNat_eq e)
  have := off.isLt
  unfold nextAddr phys memSize
  rw [BitVec.toNat_add]
  simp; omega

/-- In one segment different offsets are different addresses. -/
theorem phys_inj {seg a b : Word} : phys seg a = phys seg b ↔ a = b := by
  constructor
  · intro h
    have := a.isLt
    have := b.isLt
    unfold phys memSize at h
    exact BitVec.eq_of_toNat_eq (by omega)
  · rintro rfl; rfl

/-! ### Bytes of the state -/

theorem storeByte_mem_ram {s : State} {a : Nat} (v : Byte) (h : s.region a = none) :
    (s.storeByte a v).mem = Memory.write s.mem a v := by simp [State.storeByte, h]

/-- A store changes at most the byte it addresses. -/
theorem read_storeByte_ne (s : State) {a b : Nat} (v : Byte) (h : b ≠ a) :
    Memory.read (s.storeByte a v).mem b = Memory.read s.mem b := by
  unfold State.storeByte
  split <;> first | rfl | exact read_write_ne _ _ h

theorem read_storeByte_ram {s : State} {a : Nat} (v : Byte) (h : s.region a = none) :
    Memory.read (s.storeByte a v).mem a = v := by rw [storeByte_mem_ram v h, read_write_same]

theorem wf_storeByte {s : State} {a : Nat} (v : Byte) (h : Memory.wf s.mem) (ha : a < memSize) :
    Memory.wf (s.storeByte a v).mem := by
  unfold State.storeByte
  split <;> first | exact h | exact wf_write v h ha

theorem wf_storeWord {s : State} {a : Nat} (v : Word) (h : Memory.wf s.mem) (ha : a < memSize) :
    Memory.wf (s.storeWord a v).mem := wf_storeByte _ (wf_storeByte _ h ha) (nextAddr_lt a)

/-- A word stored changes at most its two bytes. -/
theorem read_storeWord_ne (s : State) {a b : Nat} (v : Word) (h : b ∉ [a, nextAddr a]) :
    Memory.read (s.storeWord a v).mem b = Memory.read s.mem b := by
  simp only [List.mem_cons, List.not_mem_nil, or_false, not_or] at h
  unfold State.storeWord
  rw [read_storeByte_ne _ _ h.2, read_storeByte_ne _ _ h.1]

/-- The two bytes of a word stored in RAM. -/
theorem read_storeWord_ram {s : State} {a : Nat} (v : Word) (h : s.region a = none) (h' : s.region (nextAddr a) = none) :
    Memory.read (s.storeWord a v).mem a = lowByte v ∧ Memory.read (s.storeWord a v).mem (nextAddr a) = highByte v := by
  unfold State.storeWord
  exact ⟨by rw [read_storeByte_ne _ _ (nextAddr_ne a).symm, read_storeByte_ram _ h], read_storeByte_ram _ (by simpa using h')⟩

theorem loadByte_present {s : State} {a : Nat} (h : s.region a = none ∨ s.region a = some .rom) :
    s.loadByte a = Memory.read s.mem a := by
  rcases h with h | h <;> simp [State.loadByte, h]

theorem loadByte_ram {s : State} {a : Nat} (h : s.region a = none) : s.loadByte a = Memory.read s.mem a :=
  loadByte_present (.inl h)

/-- A byte read depends on memory, what stands where, and the count of free values alone. -/
theorem loadByte_congr {s t : State} (hm : t.mem = s.mem) (hr : t.region = s.region) (hf : t.freeCount = s.freeCount) (a : Nat) :
    t.loadByte a = s.loadByte a := by simp [State.loadByte, hm, hr, hf]

theorem loadWord_congr {s t : State} (hm : t.mem = s.mem) (hr : t.region = s.region) (hf : t.freeCount = s.freeCount) (a : Nat) :
    t.loadWord a = s.loadWord a := by simp [State.loadWord, loadByte_congr hm hr hf]

end Sys2Proof.Laws
end

