-- ==== Sys2Proof/Laws/Ops.lean ====
section
/-! SUPPORT. The shared operations: each lemma says once what an operation answers, so that no later proof unfolds it. -/

namespace Sys2Proof.Laws

open Sys2Proof Sys2Proof.Machine Sys2Proof.Safety

/-! ### Meanings that may stop -/

@[simp] theorem outcome_ok (s : State) : outcome (.ok s) = .next s := rfl

@[simp] theorem outcome_fault (f : Fault) : outcome (.error (.fault f)) = .fault f := rfl

@[simp] theorem outcome_refused (r : Refusal) : outcome (.error (.refused r)) = .refused r := rfl

@[simp] theorem outcome_eq_next {x : Except Stop State} {t : State} : outcome x = .next t ↔ x = .ok t := by
  rcases x with e | s
  · cases e <;> simp [outcome]
  · simp [outcome]

@[simp] theorem ok_bind {α β : Type} (a : α) (f : α → Except Stop β) : (Except.ok a >>= f) = f a := rfl

@[simp] theorem error_bind {α β : Type} (e : Stop) (f : α → Except Stop β) : (Except.error e >>= f) = .error e := rfl

/-- A computation in two parts answers when both do. -/
theorem bind_eq_ok {α β : Type} {x : Except Stop α} {f : α → Except Stop β} {b : β} :
    (x >>= f) = .ok b ↔ ∃ a, x = .ok a ∧ f a = .ok b := by
  cases x <;> simp

/-! ### Bus cycles -/

theorem dataCycles_nil : DataCycles [] := fun _ h => by simp at h

theorem dataCycles_append {es fs : List BusEvent} (h : DataCycles es) (h' : DataCycles fs) : DataCycles (es ++ fs) := by
  intro e he
  rcases List.mem_append.mp he with he | he
  · exact h e he
  · exact h' e he

theorem dataCycles_readByte (a : Nat) (v : Word) : DataCycles [.memRead false a v] := by simp [DataCycles, BusEvent.cycleType]

theorem dataCycles_writeByte (a : Nat) (v : Word) : DataCycles [.memWrite false a v] := by simp [DataCycles, BusEvent.cycleType]

theorem dataCycles_readWord (s : State) (a : Nat) : DataCycles (s.wordReadCycles a) := by
  unfold State.wordReadCycles wordCycles
  split <;> simp [DataCycles, BusEvent.cycleType]

theorem dataCycles_writeWord (split : Bool) (a a' : Nat) (v : Word) : DataCycles (wordCycles .memWrite split a a' v) := by
  unfold wordCycles
  split <;> simp [DataCycles, BusEvent.cycleType]

theorem dataCycles_read8 (rm : Rm8) (s : State) : DataCycles (readCycles8 rm s) := by
  cases rm with
  | reg r => exact dataCycles_nil
  | mem m => exact dataCycles_readByte _ _

theorem dataCycles_read16 (rm : Rm16) (s : State) : DataCycles (readCycles16 rm s) := by
  cases rm with
  | reg r => exact dataCycles_nil
  | mem m => exact dataCycles_readWord _ _

theorem onlyDataCycles_refl (s : State) : OnlyDataCycles s s := ⟨[], dataCycles_nil, (List.append_nil _).symm⟩

theorem onlyDataCycles_trans {s t u : State} (h : OnlyDataCycles s t) (h' : OnlyDataCycles t u) : OnlyDataCycles s u := by
  obtain ⟨es, he, h⟩ := h
  obtain ⟨fs, hf, h'⟩ := h'
  exact ⟨es ++ fs, dataCycles_append he hf, by rw [h', h, List.append_assoc]⟩

/-- The log alone decides. -/
theorem onlyDataCycles_congr {s t s' t' : State} (h : OnlyDataCycles s t) (hs : s'.busLog = s.busLog) (ht : t'.busLog = t.busLog) :
    OnlyDataCycles s' t' := by
  obtain ⟨es, he, h⟩ := h
  exact ⟨es, he, by rw [ht, hs, h]⟩

/-- At an even address on the 16-bit bus a word is one cycle (`20_memory.md` R82). -/
theorem wordCycles_even {α : Type} (cycle : Bool → α → Word → BusEvent) {n : Nat} (a a' : α) (v : Word) (hb : Config.bus16 = true)
    (hn : n % 2 = 0) : wordCycles cycle (splits n) a a' v = [cycle true a v] := by simp [wordCycles, splits, hb, hn]

/-- At an odd address, and on the 8-bit bus, a word is two cycles, the low byte's first (R82). -/
theorem wordCycles_split {α : Type} (cycle : Bool → α → Word → BusEvent) {n : Nat} (a a' : α) (v : Word)
    (h : Config.bus16 = false ∨ n % 2 = 1) : wordCycles cycle (splits n) a a' v =
      [cycle false a (zeroExt (lowByte v)), cycle false a' (zeroExt (highByte v))] := by
  rcases h with h | h <;> simp [wordCycles, splits, h]

/-! ### Words of memory -/

theorem readWord_ok {seg off : Word} (s : State) (h : off ≠ 0xFFFF#16) :
    readWord seg off s = .ok (s.loadWord (phys seg off), s.logEvents (s.wordReadCycles (phys seg off))) := by
  simp [readWord, memReadWord, h]

/-- The state after a word is written, its cycles logged. -/
def wroteWord (seg off v : Word) (s : State) : State :=
  (s.storeWord (phys seg off) v).logEvents (wordCycles .memWrite (splits (phys seg off)) (phys seg off) (nextAddr (phys seg off)) v)

theorem writeWord_ok {seg off : Word} (v : Word) (s : State) (h : off ≠ 0xFFFF#16) :
    writeWord seg off v s = .ok (wroteWord seg off v s) := by simp [writeWord, wroteWord, h]

theorem readWord_end (seg : Word) (s : State) : readWord seg 0xFFFF#16 s = .error (.fault .wordPastSegmentEnd) := by
  simp [readWord]

theorem writeWord_end (seg v : Word) (s : State) : writeWord seg 0xFFFF#16 v s = .error (.fault .wordPastSegmentEnd) := by
  simp [writeWord]

theorem readWord_eq_ok {seg off : Word} {s : State} {p : Word × State} :
    readWord seg off s = .ok p ↔
      off ≠ 0xFFFF#16 ∧ p = (s.loadWord (phys seg off), s.logEvents (s.wordReadCycles (phys seg off))) := by
  unfold readWord memReadWord; split <;> simp_all [eq_comm]

theorem writeWord_eq_ok {seg off v : Word} {s t : State} :
    writeWord seg off v s = .ok t ↔ off ≠ 0xFFFF#16 ∧ t = wroteWord seg off v s := by
  unfold writeWord wroteWord; split <;> simp_all [eq_comm]

/-- A far pointer's two words, and the cycles of both. -/
theorem readPointer_ok {seg off : Word} (s : State) (h : off ≤ 0xFFFC#16) :
    readPointer seg off s = .ok (s.loadWord (phys seg off), s.loadWord (phys seg (off + 2)),
      s.logEvents (s.wordReadCycles (phys seg off) ++ s.wordReadCycles (phys seg (off + 2)))) := by
  have h' : ¬0xFFFC#16 < off := by simpa using h
  simp only [readPointer, h', if_false, memReadWord]
  simp [State.logEvents, State.wordReadCycles, State.loadWord, State.loadByte, State.region, State.isPcb]

theorem readPointer_end {seg off : Word} (s : State) (h : 0xFFFC#16 < off) :
    readPointer seg off s = .error (.fault .wordPastSegmentEnd) := by simp [readPointer, h]

/-- All that a word store changes. -/
theorem storeWord_rest (s : State) (a : Nat) (v : Word) :
    s.storeWord a v =
      { s with mem := (s.storeWord a v).mem, stale := (s.storeWord a v).stale, devWrites := (s.storeWord a v).devWrites } := by
  unfold State.storeWord State.storeByte
  split <;> split <;> rfl

/-- All that a byte store changes. -/
theorem storeByte_rest (s : State) (a : Nat) (v : Byte) :
    s.storeByte a v =
      { s with mem := (s.storeByte a v).mem, stale := (s.storeByte a v).stale, devWrites := (s.storeByte a v).devWrites } := by
  unfold State.storeByte
  split <;> rfl

/-- All that a word write changes. -/
theorem wroteWord_rest (seg off v : Word) (s : State) :
    wroteWord seg off v s = { s with
      mem := (wroteWord seg off v s).mem, stale := (wroteWord seg off v s).stale, devWrites := (wroteWord seg off v s).devWrites
      busLog := (wroteWord seg off v s).busLog } := by
  unfold wroteWord State.logEvents
  rw [storeWord_rest]

@[simp] theorem wroteWord_mem (seg off v : Word) (s : State) : (wroteWord seg off v s).mem = (s.storeWord (phys seg off) v).mem := rfl

@[simp] theorem wroteWord_devWrites (seg off v : Word) (s : State) :
    (wroteWord seg off v s).devWrites = (s.storeWord (phys seg off) v).devWrites := rfl

theorem wroteWord_cycles (seg off v : Word) (s : State) : OnlyDataCycles s (wroteWord seg off v s) :=
  ⟨_, dataCycles_writeWord (splits (phys seg off)) (phys seg off) (nextAddr (phys seg off)) v, by simp [wroteWord]⟩

/-- A word stored in RAM is held there. -/
theorem heldWord_storeWord {s : State} {seg off : Word} (v : Word) (h : Ram (wordBytes seg off) s) :
    heldWord (s.storeWord (phys seg off) v) seg off = v := by
  obtain ⟨h1, h2⟩ := read_storeWord_ram (a := phys seg off) v (h _ (by simp [wordBytes])) (h _ (by simp [wordBytes]))
  simp [heldWord, h1, h2]

/-- A word in RAM is read as memory holds it. -/
theorem loadWord_ram {s : State} {seg off : Word} (h : Ram (wordBytes seg off) s) :
    s.loadWord (phys seg off) = heldWord s seg off := by
  simp [State.loadWord, heldWord, loadByte_ram (h _ (by simp [wordBytes] : phys seg off ∈ wordBytes seg off)),
    loadByte_ram (h _ (by simp [wordBytes] : nextAddr (phys seg off) ∈ wordBytes seg off))]

/-- A word whose bytes are kept is held as before. -/
theorem heldWord_congr {s t : State} {as : List Nat} {seg off : Word} (h : MemSameBut as s t)
    (hd : ∀ a ∈ wordBytes seg off, a ∉ as) : heldWord t seg off = heldWord s seg off := by
  simp [heldWord, h.bytes _ (hd _ (by simp [wordBytes] : phys seg off ∈ wordBytes seg off)),
    h.bytes _ (hd _ (by simp [wordBytes] : nextAddr (phys seg off) ∈ wordBytes seg off))]

/-- A byte stored in RAM is written to no device. -/
theorem storeByte_devWrites {s : State} {a : Nat} (v : Byte) (h : s.region a = none) :
    (s.storeByte a v).devWrites = s.devWrites := by simp [State.storeByte, h]

theorem memSame_storeByte (s : State) (a : Nat) (v : Byte) : MemSameBut [a] s (s.storeByte a v) :=
  ⟨fun _ h => read_storeByte_ne s v (by simpa using h), fun h => storeByte_devWrites v (h a (by simp))⟩

theorem memSame_storeWord (s : State) (a : Nat) (v : Word) : MemSameBut [a, nextAddr a] s (s.storeWord a v) := by
  refine ⟨fun _ h => read_storeWord_ne s v h, fun h => ?_⟩
  rw [State.storeWord, storeByte_devWrites _ (by simpa using h (nextAddr a) (by simp)), storeByte_devWrites _ (h a (by simp))]

/-- Two sets of stores, one after the other. -/
theorem memSame_trans {as bs : List Nat} {s t u : State} (h : MemSameBut as s t) (h' : MemSameBut bs t u)
    (hm : t.region = s.region) : MemSameBut (as ++ bs) s u := by
  refine ⟨fun a ha => ?_, fun hr => ?_⟩
  · simp only [List.mem_append, not_or] at ha
    rw [h'.bytes a ha.2, h.bytes a ha.1]
  · rw [h'.devices fun a ha => by rw [hm]; exact hr a (List.mem_append_right _ ha),
      h.devices fun a ha => hr a (List.mem_append_left _ ha)]

theorem memSame_mono {as bs : List Nat} {s t : State} (h : MemSameBut as s t) (hs : ∀ a ∈ as, a ∈ bs) : MemSameBut bs s t :=
  ⟨fun a ha => h.bytes a fun h' => ha (hs a h'), fun hr => h.devices fun a ha => hr a (hs a ha)⟩

/-! ### The stack -/

/-- The state after a push. -/
def afterPush (v : Word) (s : State) : State := wroteWord s.sregs.ss (s.regs.sp - 2) v (s.setReg16 .sp (s.regs.sp - 2))

theorem push_eq {s : State} (v : Word) (h : s.regs.sp - 2 ≠ 0xFFFF#16) : push v s = .ok (afterPush v s) := by
  rw [push, writeWord_ok _ _ h, afterPush]

theorem push_end {s : State} (v : Word) (h : s.regs.sp = 1#16) : push v s = .error (.fault .wordPastSegmentEnd) := by
  simp [push, writeWord, h]

/-- All that a push does. -/
theorem push_eq_ok {s t : State} {v : Word} : push v s = .ok t ↔ s.regs.sp - 2 ≠ 0xFFFF#16 ∧ t = afterPush v s := by
  simp [push, writeWord_eq_ok, afterPush]

/-- What a push leaves: SP, memory, the queue's old bytes and the log apart, the state is as before. -/
theorem push_rest {s t : State} {v : Word} (h : push v s = .ok t) :
    t = { s with regs := { s.regs with sp := s.regs.sp - 2 }, mem := t.mem, stale := t.stale, devWrites := t.devWrites,
                 busLog := t.busLog } := by
  obtain ⟨-, rfl⟩ := push_eq_ok.mp h
  exact wroteWord_rest _ _ _ _

/-- The word pushed, and the rest of memory. -/
theorem push_pushed {s t : State} {v : Word} (h : push v s = .ok t) : Pushed v s t := by
  have hr := push_rest h
  obtain ⟨-, rfl⟩ := push_eq_ok.mp h
  have hc : OnlyDataCycles s (afterPush v s) := onlyDataCycles_congr (wroteWord_cycles _ _ _ _) (by simp) rfl
  refine ⟨?_, hc, fun hr' => ?_, ?_⟩
  · rw [show (afterPush v s).freeCount = s.freeCount by rw [hr]]; exact hr
  · exact heldWord_storeWord (s := s.setReg16 .sp (s.regs.sp - 2)) v (by simpa [Ram] using hr')
  · have h := memSame_storeWord (s.setReg16 .sp (s.regs.sp - 2)) (phys s.sregs.ss (s.regs.sp - 2)) v
    exact ⟨fun a ha => by simpa [afterPush] using h.bytes a ha, fun hr' => by
      simpa [afterPush] using h.devices fun a ha => by simpa using hr' a ha⟩

theorem push_ok {s : State} (v : Word) (h : s.regs.sp - 2 ≠ 0xFFFF#16) : ∃ t, push v s = .ok t :=
  ⟨_, push_eq v h⟩

/-- The state after a pop. -/
def afterPop (s : State) : State :=
  (s.logEvents (s.wordReadCycles (phys s.sregs.ss s.regs.sp))).setReg16 .sp (s.regs.sp + 2)

theorem pop_ok {s : State} (h : s.regs.sp ≠ 0xFFFF#16) : pop s = .ok (stackTop s, afterPop s) := by
  simp [pop, readWord_ok s h, stackTop, afterPop]

theorem pop_end {s : State} (h : s.regs.sp = 0xFFFF#16) : pop s = .error (.fault .wordPastSegmentEnd) := by
  simp [pop, readWord, h]

/-- All that a pop does. -/
theorem pop_eq_ok {s : State} {p : Word × State} :
    pop s = .ok p ↔ s.regs.sp ≠ 0xFFFF#16 ∧ p = (stackTop s, afterPop s) := by
  by_cases h : s.regs.sp = 0xFFFF#16
  · simp [pop_end h, h]
  · simp [pop_ok h, h, eq_comm]

/-- What a pop leaves: SP and the log apart, the state is as before. -/
theorem afterPop_eq (s : State) : afterPop s =
    { s with regs := { s.regs with sp := s.regs.sp + 2 }
             busLog := s.busLog ++ s.wordReadCycles (phys s.sregs.ss s.regs.sp) } := rfl

theorem afterPop_cycles (s : State) : OnlyDataCycles s (afterPop s) :=
  ⟨_, dataCycles_readWord s (phys s.sregs.ss s.regs.sp), by simp [afterPop]⟩

/-! ### Operands -/

/-- The address and the segment of an operand depend on the registers and the prefixes alone. -/
theorem ea_congr {s t : State} (h : t.regs = s.regs) (m : Mem) : ea m t = ea m s := by
  cases m with
  | direct a => rfl
  | plain b => cases b <;> simp [ea, baseSum, h]
  | disp8 b d => cases b <;> simp [ea, baseSum, h]
  | disp16 b d => cases b <;> simp [ea, baseSum, h]

theorem memSeg_congr {s t : State} (h : t.sregs = s.sregs) (hp : t.pfx = s.pfx) (m : Mem) : memSeg m t = memSeg m s := by
  simp [memSeg, overridableSeg, sreg_congr h, hp]

/-- A byte operand's value does not depend on flags, log and count of free values, the last only through absent memory and devices. -/
theorem opByte_congr {s t : State} (hr : t.regs = s.regs) (hs : t.sregs = s.sregs) (hp : t.pfx = s.pfx) (hm : t.mem = s.mem)
    (hg : t.region = s.region) (hf : t.freeCount = s.freeCount) (rm : Rm8) : opByte rm t = opByte rm s := by
  cases rm with
  | reg r => exact reg8_congr hr r
  | mem m => simp only [opByte, memSeg_congr hs hp, ea_congr hr, loadByte_congr hm hg hf]

theorem opWord_congr {s t : State} (hr : t.regs = s.regs) (hs : t.sregs = s.sregs) (hp : t.pfx = s.pfx) (hm : t.mem = s.mem)
    (hg : t.region = s.region) (hf : t.freeCount = s.freeCount) (rm : Rm16) : opWord rm t = opWord rm s := by
  cases rm with
  | reg r => exact reg16_congr hr r
  | mem m => simp only [opWord, memSeg_congr hs hp, ea_congr hr, loadWord_congr hm hg hf]

/-- All that reading a byte operand does. -/
theorem getRm8_eq (rm : Rm8) (s : State) : getRm8 rm s = (opByte rm s, s.logEvents (readCycles8 rm s)) := by
  cases rm with
  | reg r => simp [getRm8, opByte, readCycles8, State.logEvents]
  | mem m => rfl

theorem getRm16_ok {rm : Rm16} {s : State} (h : Accessible rm s) :
    getRm16 rm s = .ok (opWord rm s, s.logEvents (readCycles16 rm s)) := by
  cases rm with
  | reg r => simp [getRm16, opWord, readCycles16, State.logEvents]
  | mem m => exact readWord_ok s (h m rfl)

theorem getRm16_end {m : Mem} {s : State} (h : ea m s = 0xFFFF#16) :
    getRm16 (.mem m) s = .error (.fault .wordPastSegmentEnd) := by simp [getRm16, h, readWord_end]

/-- All that reading a word operand does. -/
theorem getRm16_eq_ok {rm : Rm16} {s : State} {p : Word × State} :
    getRm16 rm s = .ok p ↔ Accessible rm s ∧ p = (opWord rm s, s.logEvents (readCycles16 rm s)) := by
  constructor
  · intro h
    have ha : Accessible rm s := by
      rintro m rfl he
      rw [getRm16_end he] at h
      exact absurd h (by simp)
    rw [getRm16_ok ha] at h
    exact ⟨ha, (Except.ok.inj h).symm⟩
  · rintro ⟨ha, rfl⟩; exact getRm16_ok ha

@[simp] theorem accessible_reg (r : Reg16) (s : State) : Accessible (.reg r) s := fun _ h => by cases h

/-- A byte operand written, where the flags are `f`, the count of free values is `n` and memory cycles `es` are logged since `s`. -/
theorem setRm8_wrote (rm : Rm8) (v : Byte) (s : State) (f : Flags) (n k : Nat) {es : List BusEvent} (hes : DataCycles es) :
    WroteByte rm v s
      { setRm8 rm v { s with flags := f, freeCount := n, busLog := s.busLog ++ es } with freeCount := k } := by
  cases rm with
  | reg r =>
    refine ⟨?_, ⟨es, hes, ?_⟩, fun _ => ?_, fun h hr => ?_, ?_, ⟨fun a _ => ?_, fun _ => ?_⟩⟩
    · simp only [setRm8]; cases r <;> rfl
    · simp [setRm8]
    · exact reg8_setReg8_same _ r v
    · exact reg8_setReg8_ne { s with flags := f, freeCount := n, busLog := s.busLog ++ es } v (fun e => hr (by rw [e]))
    · exact setReg8_pointers { s with flags := f, freeCount := n, busLog := s.busLog ++ es } r v
    · simp only [setRm8]; cases r <;> rfl
    · simp only [setRm8]; cases r <;> rfl
  | mem m =>
    generalize hu : ({ s with flags := f, freeCount := n, busLog := s.busLog ++ es } : State) = u
    have hm : memSeg m u = memSeg m s := by rw [← hu]; rfl
    have he : ea m u = ea m s := by rw [← hu]; exact ea_congr rfl m
    have hg : u.region = s.region := by rw [← hu]; rfl
    refine ⟨?_, ⟨es ++ [_], dataCycles_append hes (dataCycles_writeByte (phys (memSeg m s) (ea m s)) (zeroExt v)), ?_⟩,
      fun hr => ?_, fun h _ => ?_, ?_, ⟨fun a ha => ?_, fun hr => ?_⟩⟩
    · simp only [setRm8, writeByte, hm, he, State.logEvents]
      rw [storeByte_rest, ← hu]
    · simp only [setRm8, writeByte, hm, he, logEvents_busLog, storeByte_busLog]
      simp [← hu]
    · have hram : u.region (phys (memSeg m s) (ea m s)) = none := by rw [hg]; exact hr _ (by simp [bytesOf8])
      have h1 : memSeg m { setRm8 (.mem m) v u with freeCount := k } = memSeg m s := by
        rw [← hm]; exact memSeg_congr (by simp [setRm8, writeByte]) (by simp [setRm8, writeByte]) m
      have h2 : ea m { setRm8 (.mem m) v u with freeCount := k } = ea m s := by
        rw [← he]; exact ea_congr (by simp [setRm8, writeByte]) m
      simp only [opByte, h1, h2]
      rw [loadByte_ram (by
        show (setRm8 (.mem m) v u).region _ = none
        simpa [setRm8, writeByte] using hram)]
      simp only [setRm8, writeByte, hm, he]
      exact read_storeByte_ram v hram
    · rw [← show u.reg8 h = s.reg8 h by rw [← hu]; rfl]
      exact reg8_congr (by simp [setRm8, writeByte]) h
    · simp [setRm8, writeByte, ← hu]
    · simp only [bytesOf8, List.mem_singleton] at ha
      simp only [setRm8, writeByte, hm, he]
      rw [← show u.mem = s.mem by rw [← hu]]
      exact read_storeByte_ne u v ha
    · simp only [setRm8, writeByte, hm, he]
      rw [← show u.devWrites = s.devWrites by rw [← hu]]
      exact storeByte_devWrites v (by rw [hg]; exact hr _ (by simp [bytesOf8]))

/-- A word operand written; `f`, `n`, `k` and `es` as for a byte. -/
theorem setRm16_wrote {rm : Rm16} {s : State} (v : Word) (f : Flags) (n k : Nat) {es : List BusEvent} (hes : DataCycles es)
    (h : Accessible rm s) :
    ∃ t, setRm16 rm v { s with flags := f, freeCount := n, busLog := s.busLog ++ es } = .ok t ∧
      WroteWord rm v s { t with freeCount := k } ∧ t.flags = f ∧ t.freeCount = n := by
  cases rm with
  | reg r =>
    refine ⟨_, rfl, ⟨?_, ⟨es, hes, ?_⟩, fun _ => ?_, fun x hx => ?_, ⟨fun a _ => ?_, fun _ => ?_⟩⟩, by simp, by simp⟩
    · cases r <;> rfl
    · simp
    · exact reg16_setReg16_same _ r v
    · exact reg16_setReg16_ne { s with flags := f, freeCount := n, busLog := s.busLog ++ es } v (fun e => hx (by rw [e]))
    · cases r <;> rfl
    · cases r <;> rfl
  | mem m =>
    generalize hu : ({ s with flags := f, freeCount := n, busLog := s.busLog ++ es } : State) = u
    have hm : memSeg m u = memSeg m s := by rw [← hu]; rfl
    have he : ea m u = ea m s := by rw [← hu]; exact ea_congr rfl m
    have hg : u.region = s.region := by rw [← hu]; rfl
    have hflags : u.flags = f := by rw [← hu]
    have hcount : u.freeCount = n := by rw [← hu]
    refine ⟨wroteWord (memSeg m s) (ea m s) v u, by rw [setRm16, hm, he]; exact writeWord_ok v _ (h m rfl),
      ⟨?_, ?_, fun hr => ?_, fun x _ => ?_, ?_⟩, by simp [wroteWord, hflags], by simp [wroteWord, hcount]⟩
    · rw [wroteWord_rest, ← hu]
    · exact onlyDataCycles_congr (onlyDataCycles_trans (s := s) ⟨es, hes, by rw [← hu]⟩ (wroteWord_cycles _ _ _ u)) rfl rfl
    · have hr' : Ram (wordBytes (memSeg m s) (ea m s)) u := fun a ha => by rw [hg]; exact hr a ha
      have hh : heldWord (wroteWord (memSeg m s) (ea m s) v u) (memSeg m s) (ea m s) = v := heldWord_storeWord v hr'
      have h1 : memSeg m { wroteWord (memSeg m s) (ea m s) v u with freeCount := k } = memSeg m s := by
        rw [← hm]; exact memSeg_congr (by simp [wroteWord]) (by simp [wroteWord]) m
      have h2 : ea m { wroteWord (memSeg m s) (ea m s) v u with freeCount := k } = ea m s := by
        rw [← he]; exact ea_congr (by simp [wroteWord]) m
      simp only [opWord, h1, h2]
      rw [loadWord_ram fun a ha => by
        show (wroteWord (memSeg m s) (ea m s) v u).region a = none
        simpa [wroteWord] using hr' a ha]
      exact hh
    · rw [← show u.reg16 x = s.reg16 x by rw [← hu]; rfl]
      exact reg16_congr (by simp [wroteWord]) x
    · have h := memSame_storeWord u (phys (memSeg m s) (ea m s)) v
      refine ⟨fun a ha => ?_, fun hr => ?_⟩
      · rw [← show u.mem = s.mem by rw [← hu]]; exact h.bytes a ha
      · rw [← show u.devWrites = s.devWrites by rw [← hu]]; exact h.devices fun a ha => by rw [hg]; exact hr a ha

@[simp] theorem setRm8_flags (rm : Rm8) (v : Byte) (s : State) : (setRm8 rm v s).flags = s.flags := by
  cases rm <;> simp [setRm8, writeByte]

@[simp] theorem setRm8_freeCount (rm : Rm8) (v : Byte) (s : State) : (setRm8 rm v s).freeCount = s.freeCount := by
  cases rm <;> simp [setRm8, writeByte]

/-- A byte operand written, with the count of free values not set again. -/
theorem setRm8_wrote' (rm : Rm8) (v : Byte) (s : State) (f : Flags) (n : Nat) {es : List BusEvent} (hes : DataCycles es) :
    WroteByte rm v s (setRm8 rm v { s with flags := f, freeCount := n, busLog := s.busLog ++ es }) := by
  have h := setRm8_wrote rm v s f n n hes
  generalize hx : setRm8 rm v { s with flags := f, freeCount := n, busLog := s.busLog ++ es } = x at h ⊢
  have hn : x.freeCount = n := by rw [← hx]; simp
  rwa [show ({ x with freeCount := n } : State) = x by cases x; simp_all] at h

/-- A word operand written, with the count of free values not set again. -/
theorem setRm16_wrote' {rm : Rm16} {s : State} (v : Word) (f : Flags) (n : Nat) {es : List BusEvent} (hes : DataCycles es)
    (h : Accessible rm s) :
    ∃ t, setRm16 rm v { s with flags := f, freeCount := n, busLog := s.busLog ++ es } = .ok t ∧ WroteWord rm v s t ∧
      t.flags = f := by
  obtain ⟨t, ht, hw, hf, hn⟩ := setRm16_wrote v f n n hes h
  refine ⟨t, ht, ?_, hf⟩
  rwa [show ({ t with freeCount := n } : State) = t by cases t; simp_all] at hw

/-- The forms of R261 on bytes, for an operation that writes; memory cycles `es` are logged since `s`. -/
theorem binop8With_wrote {op : AluOp} (hw : op.writes = true) (dst : Rm8) (b : Byte) (s : State) {es : List BusEvent}
    (hes : DataCycles es) :
    WroteByte dst (op.apply (opByte dst s) b s.free s.flags).1 s (binop8With op dst b (s.logEvents es)) ∧
      (binop8With op dst b (s.logEvents es)).flags = (op.apply (opByte dst s) b s.free s.flags).2 := by
  have ho : opByte dst (s.logEvents es) = opByte dst s := opByte_congr rfl rfl rfl rfl rfl rfl dst
  simp only [binop8With, hw, if_true, getRm8_eq, ho]
  have h := setRm8_wrote' dst (op.apply (opByte dst s) b s.free s.flags).1 s (op.apply (opByte dst s) b s.free s.flags).2
    (s.freeCount + 1) (dataCycles_append hes (dataCycles_read8 dst (s.logEvents es)))
  rw [← List.append_assoc] at h
  exact ⟨h, by simp; rfl⟩

/-- The forms of R261 on words, for an operation that writes. -/
theorem binop16With_wrote {op : AluOp} (hw : op.writes = true) {dst : Rm16} (b : Word) {s : State} {es : List BusEvent}
    (hes : DataCycles es) (h : Accessible dst s) :
    ∃ t, binop16With op dst b (s.logEvents es) = .ok t ∧ WroteWord dst (op.apply (opWord dst s) b s.free s.flags).1 s t ∧
      t.flags = (op.apply (opWord dst s) b s.free s.flags).2 := by
  have ho : opWord dst (s.logEvents es) = opWord dst s := opWord_congr rfl rfl rfl rfl rfl rfl dst
  have ha : Accessible dst (s.logEvents es) := fun m hm => by
    rw [show ea m (s.logEvents es) = ea m s from ea_congr rfl m]; exact h m hm
  obtain ⟨t, ht, h⟩ := setRm16_wrote' (op.apply (opWord dst s) b s.free s.flags).1 (op.apply (opWord dst s) b s.free s.flags).2
    (s.freeCount + 1) (dataCycles_append hes (dataCycles_read16 dst (s.logEvents es))) h
  rw [← List.append_assoc] at ht
  refine ⟨t, ?_, h⟩
  simp only [binop16With, getRm16_ok ha, ok_bind, hw, if_true, ho]
  exact ht

/-- CMP and TEST on bytes: only flags change. -/
theorem binop8With_flags {op : AluOp} (hw : op.writes = false) (dst : Rm8) (b : Byte) (s : State) :
    binop8With op dst b s = { s with
      flags := (op.apply (opByte dst s) b s.free s.flags).2, busLog := s.busLog ++ readCycles8 dst s
      freeCount := s.freeCount + 1 } := by
  simp only [binop8With, hw, Bool.false_eq_true, if_false, getRm8_eq]; rfl

/-- CMP and TEST on words: only flags change. -/
theorem binop16With_flags {op : AluOp} (hw : op.writes = false) {dst : Rm16} (b : Word) {s : State} (h : Accessible dst s) :
    binop16With op dst b s = .ok { s with
      flags := (op.apply (opWord dst s) b s.free s.flags).2, busLog := s.busLog ++ readCycles16 dst s
      freeCount := s.freeCount + 1 } := by
  simp only [binop16With, getRm16_ok h, ok_bind, hw, Bool.false_eq_true, if_false]; rfl

/-! ### Interrupt entry -/

/-- All that an interrupt entry does, in terms of its three pushes. -/
theorem enter_eq_ok {n : Byte} {s t : State} :
    enter n s = .ok t ↔ frameOverlaps n s = false ∧ ∃ a b c,
      push (s.flags.image s.free)
        (s.logEvents (s.wordReadCycles (4 * n.toNat) ++ s.wordReadCycles (4 * n.toNat + 2))).nextFree = .ok a ∧
      push a.sregs.cs (a.setFlags { a.flags with tf := false, ifl := false }) = .ok b ∧ push b.ip b = .ok c ∧
      t = c.endContext.farJump (s.loadWord (4 * n.toNat + 2)) (s.loadWord (4 * n.toNat)) := by
  have hs : (memReadWord (4 * n.toNat + 2) (memReadWord (4 * n.toNat) s).2).2 =
      s.logEvents (s.wordReadCycles (4 * n.toNat) ++ s.wordReadCycles (4 * n.toNat + 2)) := by
    simp [memReadWord, State.logEvents, State.wordReadCycles, State.loadWord, State.loadByte, State.region, State.isPcb]
  have hi : (memReadWord (4 * n.toNat) s).1 = s.loadWord (4 * n.toNat) := rfl
  have hc : (memReadWord (4 * n.toNat + 2) (memReadWord (4 * n.toNat) s).2).1 = s.loadWord (4 * n.toNat + 2) := rfl
  unfold enter
  by_cases h : frameOverlaps n s = true
  · simp [h]
  · simp only [h, Bool.false_eq_true, if_false, hs, hi, hc]
    constructor
    · intro h
      obtain ⟨a, ha, h⟩ := bind_eq_ok.mp h
      obtain ⟨b, hb, h⟩ := bind_eq_ok.mp h
      obtain ⟨c, hc, h⟩ := bind_eq_ok.mp h
      exact ⟨trivial, a, b, c, ha, hb, hc, (Except.ok.inj h).symm⟩
    · rintro ⟨-, a, b, c, ha, hb, hc, rfl⟩
      exact bind_eq_ok.mpr ⟨a, ha, bind_eq_ok.mpr ⟨b, hb, bind_eq_ok.mpr ⟨c, hc, rfl⟩⟩⟩

/-- An interrupt entry changes SP, CS:IP, TF, IF, memory, the log and the count of free values, and ends what was in progress. -/
theorem enter_rest {n : Byte} {s t : State} (h : enter n s = .ok t) :
    t = { s with
      regs := { s.regs with sp := s.regs.sp - 6 }
      sregs := { s.sregs with cs := s.loadWord (4 * n.toNat + 2) }
      ip := s.loadWord (4 * n.toNat)
      flags := { s.flags with tf := false, ifl := false }
      mem := t.mem
      stale := []
      devWrites := t.devWrites
      halted := false
      inPrefix := false
      pfx := Prefixes.none
      repeating := none
      busLog := t.busLog
      freeCount := s.freeCount + 1 } := by
  obtain ⟨-, a, b, c, ha, hb, hc, rfl⟩ := enter_eq_ok.mp h
  rw [push_rest hc, push_rest hb, push_rest ha]
  simp [State.endContext, State.farJump, State.jump, State.setSReg, State.setFlags, State.nextFree, State.logEvents]
  bv_omega

end Sys2Proof.Laws
end

