-- ==== Sys2Proof/Tests/Slice0.lean ====
section
/-! SUPPORT. Tests: what `WellFormed` refuses, one word for every constructor, one step for the vectors of `95_test_vectors.md`, and
for each statement a state that meets its hypotheses. -/

namespace Sys2Proof.Tests

open Sys2Proof Sys2Proof.Machine Sys2Proof.Safety

/-! ### Well-formedness -/

theorem test_wf_refuses_plain_bp : (Instr.movRm8R8 (.mem (.plain .bp)) .al).wf = false := by decide

theorem test_wf_refuses_plain_bp_pointer : (Instr.lds .ax (.plain .bp)).wf = false := by decide

theorem test_wf_refuses_mov_cs : (Instr.movSregRm16 .cs (.reg .ax)).wf = false := by decide

theorem test_wf_refuses_xchg_ax_ax : (Instr.xchgAxR16 .ax).wf = false := by decide

/-! ### Decoding: one word for every constructor, bit by bit from `30_encoding.md` R122 to R133, R150 and R151 -/

/-- Every word decodes to its instruction, with nothing left. -/
def decodes (rows : List (List Byte × Instr)) : Bool := rows.all fun r => decode r.1 == .instr r.2 []

theorem test_decode_dataTransfer1 : decodes [
    ([0x52], .pushR16 .dx),
    ([0x5A], .popR16 .dx),
    ([0x68, 0x78, 0x56], .pushImm16 0x5678),
    ([0x6A, 0x9A], .pushImm8 0x9A),
    ([0x86, 0x90, 0x34, 0x12], .xchgRm8R8 (.mem (.disp16 .bxSi 0x1234)) .dl),
    ([0x87, 0x56, 0xFE], .xchgRm16R16 (.mem (.disp8 .bp 0xFE)) .dx),
    ([0x88, 0x90, 0x34, 0x12], .movRm8R8 (.mem (.disp16 .bxSi 0x1234)) .dl),
    ([0x89, 0x56, 0xFE], .movRm16R16 (.mem (.disp8 .bp 0xFE)) .dx),
    ([0x8A, 0x90, 0x34, 0x12], .movR8Rm8 .dl (.mem (.disp16 .bxSi 0x1234))),
    ([0x8B, 0x56, 0xFE], .movR16Rm16 .dx (.mem (.disp8 .bp 0xFE))),
    ([0x8C, 0x5E, 0xFE], .movRm16Sreg (.mem (.disp8 .bp 0xFE)) .ds),
    ([0x8D, 0x16, 0x10, 0x20], .lea .dx (.direct 0x2010)),
    ([0x8E, 0x5E, 0xFE], .movSregRm16 .ds (.mem (.disp8 .bp 0xFE))),
    ([0x8F, 0x46, 0xFE], .popRm16 (.mem (.disp8 .bp 0xFE))),
    ([0x92], .xchgAxR16 .dx),
    ([0xA0, 0x78, 0x56], .movAlMoffs8 0x5678)] = true := by decide

theorem test_decode_dataTransfer2 : decodes [
    ([0xA1, 0x78, 0x56], .movAxMoffs16 0x5678),
    ([0xA2, 0x78, 0x56], .movMoffs8Al 0x5678),
    ([0xA3, 0x78, 0x56], .movMoffs16Ax 0x5678),
    ([0xB2, 0x9A], .movR8Imm8 .dl 0x9A),
    ([0xBA, 0x78, 0x56], .movR16Imm16 .dx 0x5678),
    ([0xC4, 0x90, 0x34, 0x12], .les .dx (.disp16 .bxSi 0x1234)),
    ([0xC5, 0x90, 0x34, 0x12], .lds .dx (.disp16 .bxSi 0x1234)),
    ([0xC6, 0xC5, 0x9A], .movRm8Imm8 (.reg .ch) 0x9A),
    ([0xC7, 0x06, 0x10, 0x20, 0x78, 0x56], .movRm16Imm16 (.mem (.direct 0x2010)) 0x5678),
    ([0xC8, 0x78, 0x56, 0x9A], .enter 0x5678 0x9A),
    ([0xE4, 0x9A], .inAlImm8 0x9A),
    ([0xE5, 0x9A], .inAxImm8 0x9A),
    ([0xE6, 0x9A], .outImm8Al 0x9A),
    ([0xE7, 0x9A], .outImm8Ax 0x9A),
    ([0xFF, 0x36, 0x10, 0x20], .pushRm16 (.mem (.direct 0x2010))),
    ([0x06], .pushEs)] = true := by decide

theorem test_decode_dataTransfer3 : decodes [
    ([0x0E], .pushCs),
    ([0x16], .pushSs),
    ([0x1E], .pushDs),
    ([0x07], .popEs),
    ([0x17], .popSs),
    ([0x1F], .popDs),
    ([0x60], .pusha),
    ([0x61], .popa),
    ([0x9C], .pushf),
    ([0x9D], .popf),
    ([0x9E], .sahf),
    ([0x9F], .lahf),
    ([0xC9], .leave),
    ([0xD7], .xlat),
    ([0xEC], .inAlDx),
    ([0xED], .inAxDx)] = true := by decide

theorem test_decode_dataTransfer4 : decodes [
    ([0xEE], .outDxAl),
    ([0xEF], .outDxAx)] = true := by decide

theorem test_decode_arithmetic1 : decodes [
    ([0x00, 0x16, 0x10, 0x20], .addRm8R8 (.mem (.direct 0x2010)) .dl),
    ([0x01, 0xD5], .addRm16R16 (.reg .bp) .dx),
    ([0x02, 0x16, 0x10, 0x20], .addR8Rm8 .dl (.mem (.direct 0x2010))),
    ([0x03, 0xD5], .addR16Rm16 .dx (.reg .bp)),
    ([0x04, 0x9A], .addAlImm8 0x9A),
    ([0x05, 0x78, 0x56], .addAxImm16 0x5678),
    ([0x10, 0x56, 0xFE], .adcRm8R8 (.mem (.disp8 .bp 0xFE)) .dl),
    ([0x11, 0x90, 0x34, 0x12], .adcRm16R16 (.mem (.disp16 .bxSi 0x1234)) .dx),
    ([0x12, 0x56, 0xFE], .adcR8Rm8 .dl (.mem (.disp8 .bp 0xFE))),
    ([0x13, 0x90, 0x34, 0x12], .adcR16Rm16 .dx (.mem (.disp16 .bxSi 0x1234))),
    ([0x14, 0x9A], .adcAlImm8 0x9A),
    ([0x15, 0x78, 0x56], .adcAxImm16 0x5678),
    ([0x18, 0xD5], .sbbRm8R8 (.reg .ch) .dl),
    ([0x19, 0x16, 0x10, 0x20], .sbbRm16R16 (.mem (.direct 0x2010)) .dx),
    ([0x1A, 0xD5], .sbbR8Rm8 .dl (.reg .ch)),
    ([0x1B, 0x16, 0x10, 0x20], .sbbR16Rm16 .dx (.mem (.direct 0x2010)))] = true := by decide

theorem test_decode_arithmetic2 : decodes [
    ([0x1C, 0x9A], .sbbAlImm8 0x9A),
    ([0x1D, 0x78, 0x56], .sbbAxImm16 0x5678),
    ([0x28, 0x90, 0x34, 0x12], .subRm8R8 (.mem (.disp16 .bxSi 0x1234)) .dl),
    ([0x29, 0x56, 0xFE], .subRm16R16 (.mem (.disp8 .bp 0xFE)) .dx),
    ([0x2A, 0x90, 0x34, 0x12], .subR8Rm8 .dl (.mem (.disp16 .bxSi 0x1234))),
    ([0x2B, 0x56, 0xFE], .subR16Rm16 .dx (.mem (.disp8 .bp 0xFE))),
    ([0x2C, 0x9A], .subAlImm8 0x9A),
    ([0x2D, 0x78, 0x56], .subAxImm16 0x5678),
    ([0x38, 0x56, 0xFE], .cmpRm8R8 (.mem (.disp8 .bp 0xFE)) .dl),
    ([0x39, 0x90, 0x34, 0x12], .cmpRm16R16 (.mem (.disp16 .bxSi 0x1234)) .dx),
    ([0x3A, 0x56, 0xFE], .cmpR8Rm8 .dl (.mem (.disp8 .bp 0xFE))),
    ([0x3B, 0x90, 0x34, 0x12], .cmpR16Rm16 .dx (.mem (.disp16 .bxSi 0x1234))),
    ([0x3C, 0x9A], .cmpAlImm8 0x9A),
    ([0x3D, 0x78, 0x56], .cmpAxImm16 0x5678),
    ([0x80, 0x80, 0x34, 0x12, 0x9A], .addRm8Imm8 (.mem (.disp16 .bxSi 0x1234)) 0x9A),
    ([0x81, 0x46, 0xFE, 0x78, 0x56], .addRm16Imm16 (.mem (.disp8 .bp 0xFE)) 0x5678)] = true := by decide

theorem test_decode_arithmetic3 : decodes [
    ([0x83, 0x06, 0x10, 0x20, 0x9A], .addRm16Imm8 (.mem (.direct 0x2010)) 0x9A),
    ([0x80, 0x16, 0x10, 0x20, 0x9A], .adcRm8Imm8 (.mem (.direct 0x2010)) 0x9A),
    ([0x81, 0xD5, 0x78, 0x56], .adcRm16Imm16 (.reg .bp) 0x5678),
    ([0x83, 0x56, 0xFE, 0x9A], .adcRm16Imm8 (.mem (.disp8 .bp 0xFE)) 0x9A),
    ([0x80, 0x5E, 0xFE, 0x9A], .sbbRm8Imm8 (.mem (.disp8 .bp 0xFE)) 0x9A),
    ([0x81, 0x98, 0x34, 0x12, 0x78, 0x56], .sbbRm16Imm16 (.mem (.disp16 .bxSi 0x1234)) 0x5678),
    ([0x83, 0xDD, 0x9A], .sbbRm16Imm8 (.reg .bp) 0x9A),
    ([0x80, 0xED, 0x9A], .subRm8Imm8 (.reg .ch) 0x9A),
    ([0x81, 0x2E, 0x10, 0x20, 0x78, 0x56], .subRm16Imm16 (.mem (.direct 0x2010)) 0x5678),
    ([0x83, 0xA8, 0x34, 0x12, 0x9A], .subRm16Imm8 (.mem (.disp16 .bxSi 0x1234)) 0x9A),
    ([0x80, 0x3E, 0x10, 0x20, 0x9A], .cmpRm8Imm8 (.mem (.direct 0x2010)) 0x9A),
    ([0x81, 0xFD, 0x78, 0x56], .cmpRm16Imm16 (.reg .bp) 0x5678),
    ([0x83, 0x7E, 0xFE, 0x9A], .cmpRm16Imm8 (.mem (.disp8 .bp 0xFE)) 0x9A),
    ([0x42], .incR16 .dx),
    ([0x4A], .decR16 .dx),
    ([0x69, 0xD5, 0x78, 0x56], .imulR16Rm16Imm16 .dx (.reg .bp) 0x5678)] = true := by decide

theorem test_decode_arithmetic4 : decodes [
    ([0x6B, 0x56, 0xFE, 0x9A], .imulR16Rm16Imm8 .dx (.mem (.disp8 .bp 0xFE)) 0x9A),
    ([0xF6, 0x5E, 0xFE], .negRm8 (.mem (.disp8 .bp 0xFE))),
    ([0xF7, 0xDD], .negRm16 (.reg .bp)),
    ([0xF6, 0x66, 0xFE], .mulRm8 (.mem (.disp8 .bp 0xFE))),
    ([0xF7, 0xE5], .mulRm16 (.reg .bp)),
    ([0xF6, 0x2E, 0x10, 0x20], .imulRm8 (.mem (.direct 0x2010))),
    ([0xF7, 0x6E, 0xFE], .imulRm16 (.mem (.disp8 .bp 0xFE))),
    ([0xF6, 0x36, 0x10, 0x20], .divRm8 (.mem (.direct 0x2010))),
    ([0xF7, 0x76, 0xFE], .divRm16 (.mem (.disp8 .bp 0xFE))),
    ([0xF6, 0xB8, 0x34, 0x12], .idivRm8 (.mem (.disp16 .bxSi 0x1234))),
    ([0xF7, 0x3E, 0x10, 0x20], .idivRm16 (.mem (.direct 0x2010))),
    ([0xFE, 0x46, 0xFE], .incRm8 (.mem (.disp8 .bp 0xFE))),
    ([0xFE, 0x88, 0x34, 0x12], .decRm8 (.mem (.disp16 .bxSi 0x1234))),
    ([0xFF, 0xC5], .incRm16 (.reg .bp)),
    ([0xFF, 0x0E, 0x10, 0x20], .decRm16 (.mem (.direct 0x2010))),
    ([0x27], .daa)] = true := by decide

theorem test_decode_arithmetic5 : decodes [
    ([0x2F], .das),
    ([0x37], .aaa),
    ([0x3F], .aas),
    ([0x98], .cbw),
    ([0x99], .cwd),
    ([0xD4, 0x0A], .aam),
    ([0xD5, 0x0A], .aad)] = true := by decide

theorem test_decode_bitManipulation1 : decodes [
    ([0x08, 0x16, 0x10, 0x20], .orRm8R8 (.mem (.direct 0x2010)) .dl),
    ([0x09, 0xD5], .orRm16R16 (.reg .bp) .dx),
    ([0x0A, 0x16, 0x10, 0x20], .orR8Rm8 .dl (.mem (.direct 0x2010))),
    ([0x0B, 0xD5], .orR16Rm16 .dx (.reg .bp)),
    ([0x0C, 0x9A], .orAlImm8 0x9A),
    ([0x0D, 0x78, 0x56], .orAxImm16 0x5678),
    ([0x20, 0xD5], .andRm8R8 (.reg .ch) .dl),
    ([0x21, 0x16, 0x10, 0x20], .andRm16R16 (.mem (.direct 0x2010)) .dx),
    ([0x22, 0xD5], .andR8Rm8 .dl (.reg .ch)),
    ([0x23, 0x16, 0x10, 0x20], .andR16Rm16 .dx (.mem (.direct 0x2010))),
    ([0x24, 0x9A], .andAlImm8 0x9A),
    ([0x25, 0x78, 0x56], .andAxImm16 0x5678),
    ([0x30, 0x16, 0x10, 0x20], .xorRm8R8 (.mem (.direct 0x2010)) .dl),
    ([0x31, 0xD5], .xorRm16R16 (.reg .bp) .dx),
    ([0x32, 0x16, 0x10, 0x20], .xorR8Rm8 .dl (.mem (.direct 0x2010))),
    ([0x33, 0xD5], .xorR16Rm16 .dx (.reg .bp))] = true := by decide

theorem test_decode_bitManipulation2 : decodes [
    ([0x34, 0x9A], .xorAlImm8 0x9A),
    ([0x35, 0x78, 0x56], .xorAxImm16 0x5678),
    ([0x80, 0x88, 0x34, 0x12, 0x9A], .orRm8Imm8 (.mem (.disp16 .bxSi 0x1234)) 0x9A),
    ([0x81, 0x4E, 0xFE, 0x78, 0x56], .orRm16Imm16 (.mem (.disp8 .bp 0xFE)) 0x5678),
    ([0x80, 0x66, 0xFE, 0x9A], .andRm8Imm8 (.mem (.disp8 .bp 0xFE)) 0x9A),
    ([0x81, 0xA0, 0x34, 0x12, 0x78, 0x56], .andRm16Imm16 (.mem (.disp16 .bxSi 0x1234)) 0x5678),
    ([0x80, 0xB0, 0x34, 0x12, 0x9A], .xorRm8Imm8 (.mem (.disp16 .bxSi 0x1234)) 0x9A),
    ([0x81, 0x76, 0xFE, 0x78, 0x56], .xorRm16Imm16 (.mem (.disp8 .bp 0xFE)) 0x5678),
    ([0x84, 0x56, 0xFE], .testRm8R8 (.mem (.disp8 .bp 0xFE)) .dl),
    ([0x85, 0x90, 0x34, 0x12], .testRm16R16 (.mem (.disp16 .bxSi 0x1234)) .dx),
    ([0xA8, 0x9A], .testAlImm8 0x9A),
    ([0xA9, 0x78, 0x56], .testAxImm16 0x5678),
    ([0xC0, 0x80, 0x34, 0x12, 0x9A], .rolRm8Imm8 (.mem (.disp16 .bxSi 0x1234)) 0x9A),
    ([0xC1, 0x06, 0x10, 0x20, 0x9A], .rolRm16Imm8 (.mem (.direct 0x2010)) 0x9A),
    ([0xD0, 0x06, 0x10, 0x20], .rolRm8One (.mem (.direct 0x2010))),
    ([0xD1, 0x46, 0xFE], .rolRm16One (.mem (.disp8 .bp 0xFE)))] = true := by decide

theorem test_decode_bitManipulation3 : decodes [
    ([0xD2, 0x80, 0x34, 0x12], .rolRm8Cl (.mem (.disp16 .bxSi 0x1234))),
    ([0xD3, 0x06, 0x10, 0x20], .rolRm16Cl (.mem (.direct 0x2010))),
    ([0xC0, 0x4E, 0xFE, 0x9A], .rorRm8Imm8 (.mem (.disp8 .bp 0xFE)) 0x9A),
    ([0xC1, 0xCD, 0x9A], .rorRm16Imm8 (.reg .bp) 0x9A),
    ([0xD0, 0xCD], .rorRm8One (.reg .ch)),
    ([0xD1, 0x88, 0x34, 0x12], .rorRm16One (.mem (.disp16 .bxSi 0x1234))),
    ([0xD2, 0x4E, 0xFE], .rorRm8Cl (.mem (.disp8 .bp 0xFE))),
    ([0xD3, 0xCD], .rorRm16Cl (.reg .bp)),
    ([0xC0, 0x90, 0x34, 0x12, 0x9A], .rclRm8Imm8 (.mem (.disp16 .bxSi 0x1234)) 0x9A),
    ([0xC1, 0x16, 0x10, 0x20, 0x9A], .rclRm16Imm8 (.mem (.direct 0x2010)) 0x9A),
    ([0xD0, 0x16, 0x10, 0x20], .rclRm8One (.mem (.direct 0x2010))),
    ([0xD1, 0x56, 0xFE], .rclRm16One (.mem (.disp8 .bp 0xFE))),
    ([0xD2, 0x90, 0x34, 0x12], .rclRm8Cl (.mem (.disp16 .bxSi 0x1234))),
    ([0xD3, 0x16, 0x10, 0x20], .rclRm16Cl (.mem (.direct 0x2010))),
    ([0xC0, 0x5E, 0xFE, 0x9A], .rcrRm8Imm8 (.mem (.disp8 .bp 0xFE)) 0x9A),
    ([0xC1, 0xDD, 0x9A], .rcrRm16Imm8 (.reg .bp) 0x9A)] = true := by decide

theorem test_decode_bitManipulation4 : decodes [
    ([0xD0, 0xDD], .rcrRm8One (.reg .ch)),
    ([0xD1, 0x98, 0x34, 0x12], .rcrRm16One (.mem (.disp16 .bxSi 0x1234))),
    ([0xD2, 0x5E, 0xFE], .rcrRm8Cl (.mem (.disp8 .bp 0xFE))),
    ([0xD3, 0xDD], .rcrRm16Cl (.reg .bp)),
    ([0xC0, 0x66, 0xFE, 0x9A], .shlRm8Imm8 (.mem (.disp8 .bp 0xFE)) 0x9A),
    ([0xC1, 0xE5, 0x9A], .shlRm16Imm8 (.reg .bp) 0x9A),
    ([0xD0, 0xE5], .shlRm8One (.reg .ch)),
    ([0xD1, 0xA0, 0x34, 0x12], .shlRm16One (.mem (.disp16 .bxSi 0x1234))),
    ([0xD2, 0x66, 0xFE], .shlRm8Cl (.mem (.disp8 .bp 0xFE))),
    ([0xD3, 0xE5], .shlRm16Cl (.reg .bp)),
    ([0xC0, 0xA8, 0x34, 0x12, 0x9A], .shrRm8Imm8 (.mem (.disp16 .bxSi 0x1234)) 0x9A),
    ([0xC1, 0x2E, 0x10, 0x20, 0x9A], .shrRm16Imm8 (.mem (.direct 0x2010)) 0x9A),
    ([0xD0, 0x2E, 0x10, 0x20], .shrRm8One (.mem (.direct 0x2010))),
    ([0xD1, 0x6E, 0xFE], .shrRm16One (.mem (.disp8 .bp 0xFE))),
    ([0xD2, 0xA8, 0x34, 0x12], .shrRm8Cl (.mem (.disp16 .bxSi 0x1234))),
    ([0xD3, 0x2E, 0x10, 0x20], .shrRm16Cl (.mem (.direct 0x2010)))] = true := by decide

theorem test_decode_bitManipulation5 : decodes [
    ([0xC0, 0xFD, 0x9A], .sarRm8Imm8 (.reg .ch) 0x9A),
    ([0xC1, 0xB8, 0x34, 0x12, 0x9A], .sarRm16Imm8 (.mem (.disp16 .bxSi 0x1234)) 0x9A),
    ([0xD0, 0xB8, 0x34, 0x12], .sarRm8One (.mem (.disp16 .bxSi 0x1234))),
    ([0xD1, 0x3E, 0x10, 0x20], .sarRm16One (.mem (.direct 0x2010))),
    ([0xD2, 0xFD], .sarRm8Cl (.reg .ch)),
    ([0xD3, 0xB8, 0x34, 0x12], .sarRm16Cl (.mem (.disp16 .bxSi 0x1234))),
    ([0xF6, 0x06, 0x10, 0x20, 0x9A], .testRm8Imm8 (.mem (.direct 0x2010)) 0x9A),
    ([0xF7, 0xC5, 0x78, 0x56], .testRm16Imm16 (.reg .bp) 0x5678),
    ([0xF6, 0xD5], .notRm8 (.reg .ch)),
    ([0xF7, 0x90, 0x34, 0x12], .notRm16 (.mem (.disp16 .bxSi 0x1234)))] = true := by decide

theorem test_decode_strings1 : decodes [
    ([0x6C], .insb),
    ([0x6D], .insw),
    ([0x6E], .outsb),
    ([0x6F], .outsw),
    ([0xA4], .movsb),
    ([0xA5], .movsw),
    ([0xA6], .cmpsb),
    ([0xA7], .cmpsw),
    ([0xAA], .stosb),
    ([0xAB], .stosw),
    ([0xAC], .lodsb),
    ([0xAD], .lodsw),
    ([0xAE], .scasb),
    ([0xAF], .scasw)] = true := by decide

theorem test_decode_programTransfer1 : decodes [
    ([0x62, 0x90, 0x34, 0x12], .bound .dx (.disp16 .bxSi 0x1234)),
    ([0x70, 0x9A], .jo 0x9A),
    ([0x71, 0x9A], .jno 0x9A),
    ([0x72, 0x9A], .jb 0x9A),
    ([0x73, 0x9A], .jae 0x9A),
    ([0x74, 0x9A], .je 0x9A),
    ([0x75, 0x9A], .jne 0x9A),
    ([0x76, 0x9A], .jbe 0x9A),
    ([0x77, 0x9A], .ja 0x9A),
    ([0x78, 0x9A], .js 0x9A),
    ([0x79, 0x9A], .jns 0x9A),
    ([0x7A, 0x9A], .jp 0x9A),
    ([0x7B, 0x9A], .jnp 0x9A),
    ([0x7C, 0x9A], .jl 0x9A),
    ([0x7D, 0x9A], .jge 0x9A),
    ([0x7E, 0x9A], .jle 0x9A)] = true := by decide

theorem test_decode_programTransfer2 : decodes [
    ([0x7F, 0x9A], .jg 0x9A),
    ([0x9A, 0x78, 0x56, 0x78, 0x56], .callFar 0x5678 0x5678),
    ([0xC2, 0x78, 0x56], .retNearImm16 0x5678),
    ([0xCA, 0x78, 0x56], .retFarImm16 0x5678),
    ([0xCD, 0x9A], .intImm8 0x9A),
    ([0xE0, 0x9A], .loopne 0x9A),
    ([0xE1, 0x9A], .loope 0x9A),
    ([0xE2, 0x9A], .loop 0x9A),
    ([0xE3, 0x9A], .jcxz 0x9A),
    ([0xE8, 0x78, 0x56], .callNear 0x5678),
    ([0xE9, 0x78, 0x56], .jmpNear 0x5678),
    ([0xEA, 0x78, 0x56, 0x78, 0x56], .jmpFar 0x5678 0x5678),
    ([0xEB, 0x9A], .jmpShort 0x9A),
    ([0xFF, 0x16, 0x10, 0x20], .callRm16 (.mem (.direct 0x2010))),
    ([0xFF, 0x98, 0x34, 0x12], .callMem32 (.disp16 .bxSi 0x1234)),
    ([0xFF, 0x66, 0xFE], .jmpRm16 (.mem (.disp8 .bp 0xFE)))] = true := by decide

theorem test_decode_programTransfer3 : decodes [
    ([0xFF, 0xA8, 0x34, 0x12], .jmpMem32 (.disp16 .bxSi 0x1234)),
    ([0xC3], .retNear),
    ([0xCB], .retFar),
    ([0xCC], .int3),
    ([0xCE], .into),
    ([0xCF], .iret)] = true := by decide

theorem test_decode_processorControl1 : decodes [
    ([0xDB, 0x90, 0x34, 0x12], .esc 3 2 (.mem (.disp16 .bxSi 0x1234))),
    ([0x26], .segEs),
    ([0x2E], .segCs),
    ([0x36], .segSs),
    ([0x3E], .segDs),
    ([0x90], .nop),
    ([0x9B], .wait),
    ([0xF0], .lock),
    ([0xF2], .repne),
    ([0xF3], .rep),
    ([0xF4], .hlt),
    ([0xF5], .cmc),
    ([0xF8], .clc),
    ([0xF9], .stc),
    ([0xFA], .cli),
    ([0xFB], .sti)] = true := by decide

theorem test_decode_processorControl2 : decodes [
    ([0xFC], .cld),
    ([0xFD], .std)] = true := by decide

/-- `decodeTableWord` reads the table's four digits (R150): `81 /5` with a zero operand. -/
theorem test_decodeTableWord_sub : decodeTableWord 16 0x8128 = some (.subRm16Imm16 (.mem (.plain .bxSi)) 0) := by decide

/-- The first step from reset runs the word that was placed. -/
theorem test_withFetchWord_runs : (match step (State.reset.withFetchWord 16 0xF900) with
    | .next t => t.flags.cf
    | _ => false) = true := by decide

/-! ### One step, on the vectors of `95_test_vectors.md` -/

/-- The start state of the vectors. -/
def base : State :=
  { State.reset with
    regs := { State.reset.regs with sp := 0x100 }
    sregs := { es := 0x3000, cs := 0x1000, ss := 0x4000, ds := 0x2000 }
    ip := 0x100 }

/-- What one step leaves after the bytes were placed at CS:IP. -/
def after (code : List Byte) (s : State) (p : State → Bool) : Bool :=
  match step (placeNext code s) with
  | .next t => p t
  | _ => false

theorem test_V100_mov_ax_bx : after [0x8B, 0xC3]
    { base with regs := { base.regs with bx := 0x1234 } }
    (fun t => t.regs.ax == 0x1234 && t.ip == 0x0102) = true := by decide

theorem test_V101_mov_al_ah : after [0x88, 0xE0]
    { base with regs := { base.regs with ax := 0x12FF } }
    (fun t => t.regs.ax == 0x1212 && t.ip == 0x0102) = true := by decide

theorem test_V110_mov_bx_cx : after [0x89, 0x0F]
    { base with regs := { base.regs with cx := 0xA1B2, bx := 0x300 } }
    (fun t => Memory.read t.mem 0x20300 == 0xB2 && Memory.read t.mem 0x20301 == 0xA1) = true := by decide

theorem test_V112_mov_cl_12h : after [0xB1, 0x12]
    { base with regs := { base.regs with cx := 0xFFFF } }
    (fun t => t.regs.cx == 0xFF12 && t.ip == 0x0102) = true := by decide

theorem test_V113_mov_sp_1234h : after [0xBC, 0x34, 0x12]
    base
    (fun t => t.regs.sp == 0x1234 && t.ip == 0x0103) = true := by decide

theorem test_V114_mov_byte_ptr_0200h_0abh : after [0xC6, 0x06, 0x00, 0x02, 0xAB]
    base
    (fun t => Memory.read t.mem 0x20200 == 0xAB && t.ip == 0x0105) = true := by decide

theorem test_V115_mov_word_ptr_bx_0abcdh : after [0xC7, 0x07, 0xCD, 0xAB]
    { base with regs := { base.regs with bx := 0x400 } }
    (fun t => Memory.read t.mem 0x20400 == 0xCD && Memory.read t.mem 0x20401 == 0xAB) = true := by decide

theorem test_V116_mov_ds_ax : after [0x8E, 0xD8]
    { base with regs := { base.regs with ax := 0x5000 } }
    (fun t => t.sregs.ds == 0x5000 && t.ip == 0x0102) = true := by decide

theorem test_V117_mov_ax_cs : after [0x8C, 0xC8]
    base
    (fun t => t.regs.ax == 0x1000 && t.ip == 0x0102) = true := by decide

theorem test_V119_mov_al_0010h : after [0xA0, 0x10, 0x00]
    { base with mem := [(0x20010, 0x5A)] }
    (fun t => t.regs.ax == 0x005A && t.ip == 0x0103) = true := by decide

theorem test_V120_mov_0010h_ax : after [0xA3, 0x10, 0x00]
    { base with regs := { base.regs with ax := 0x1234 } }
    (fun t => Memory.read t.mem 0x20010 == 0x34 && Memory.read t.mem 0x20011 == 0x12) = true := by decide

theorem test_V121_push_ax : after [0x50]
    { base with regs := { base.regs with ax := 0x1234 } }
    (fun t => t.regs.sp == 0x00FE && Memory.read t.mem 0x400FE == 0x34 && Memory.read t.mem 0x400FF == 0x12) = true := by decide

theorem test_V125_pop_bx : after [0x5B]
    { base with regs := { base.regs with sp := 0xFE }, mem := [(0x400FE, 0xAA), (0x400FF, 0xBB)] }
    (fun t => t.regs.bx == 0xBBAA && t.regs.sp == 0x0100) = true := by decide

theorem test_V127_push_es : after [0x06]
    base
    (fun t => t.regs.sp == 0x00FE && Memory.read t.mem 0x400FE == 0x00 && Memory.read t.mem 0x400FF == 0x30) = true := by decide

theorem test_V128_pop_ds : after [0x1F]
    { base with regs := { base.regs with sp := 0xFE }, mem := [(0x400FF, 0x60)] }
    (fun t => t.regs.sp == 0x0100 && t.sregs.ds == 0x6000) = true := by decide

theorem test_V129_push_word_ptr_2000h : after [0xFF, 0x36, 0x00, 0x20]
    { base with mem := [(0x22000, 0x0E), (0x22001, 0x0F)] }
    (fun t => t.regs.sp == 0x00FE && Memory.read t.mem 0x400FE == 0x0E && Memory.read t.mem 0x400FF == 0x0F) = true := by decide

theorem test_V130_pop_word_ptr_2000h : after [0x8F, 0x06, 0x00, 0x20]
    { base with regs := { base.regs with sp := 0xFE }, mem := [(0x400FE, 0x0C), (0x400FF, 0x0D)] }
    (fun t => t.regs.sp == 0x0100 && Memory.read t.mem 0x22000 == 0x0C && Memory.read t.mem 0x22001 == 0x0D) = true := by decide

theorem test_V131_push_1234h : after [0x68, 0x34, 0x12]
    base
    (fun t => t.regs.sp == 0x00FE && Memory.read t.mem 0x400FE == 0x34 && Memory.read t.mem 0x400FF == 0x12) = true := by decide

theorem test_V132_push_1 : after [0x6A, 0xFF]
    base
    (fun t => t.regs.sp == 0x00FE && Memory.read t.mem 0x400FE == 0xFF && Memory.read t.mem 0x400FF == 0xFF) = true := by decide

theorem test_V133_pusha : after [0x60]
    { base with regs := { base.regs with ax := 0x1111, cx := 0x2222, dx := 0x3333, bx := 0x4444, bp := 0x5555, si := 0x6666, di := 0x7777 } }
    (fun t => t.regs.sp == 0x00F0 && Memory.read t.mem 0x400F0 == 0x77 && Memory.read t.mem 0x400FF == 0x11) = true := by decide

theorem test_V134_popa : after [0x61]
    { base with regs := { base.regs with sp := 0xF0 }, mem := [(0x400F0, 0x77), (0x400F1, 0x77), (0x400F2, 0x66), (0x400F3, 0x66), (0x400F4, 0x55), (0x400F5, 0x55), (0x400F6, 0xAD), (0x400F7, 0xDE), (0x400F8, 0x44), (0x400F9, 0x44), (0x400FA, 0x33), (0x400FB, 0x33), (0x400FC, 0x22), (0x400FD, 0x22), (0x400FE, 0x11), (0x400FF, 0x11)] }
    (fun t => t.regs.ax == 0x1111 && t.regs.cx == 0x2222 && t.regs.dx == 0x3333) = true := by decide

theorem test_V135_xchg_cx_bx : after [0x87, 0xD9]
    { base with regs := { base.regs with cx := 0x1111, bx := 0x2222 } }
    (fun t => t.regs.cx == 0x2222 && t.regs.bx == 0x1111) = true := by decide

theorem test_V136_xchg_ax_bx : after [0x93]
    { base with regs := { base.regs with ax := 0x1111, bx := 0x2222 } }
    (fun t => t.regs.ax == 0x2222 && t.regs.bx == 0x1111) = true := by decide

theorem test_V137_xchg_bx_al : after [0x86, 0x07]
    { base with regs := { base.regs with ax := 0xAA, bx := 0x200 }, mem := [(0x20200, 0x55)] }
    (fun t => t.regs.ax == 0x0055 && Memory.read t.mem 0x20200 == 0xAA) = true := by decide

theorem test_V138_xlat : after [0xD7]
    { base with regs := { base.regs with ax := 0x5, bx := 0x300 }, mem := [(0x20305, 0x99)] }
    (fun t => t.regs.ax == 0x0099 && t.ip == 0x0101) = true := by decide

theorem test_V140_in_al_10h : after [0xE4, 0x10]
    { base with ioIn := [0x5A] }
    (fun t => t.regs.ax == 0x005A && t.ip == 0x0102) = true := by decide

theorem test_V141_in_ax_dx : after [0xED]
    { base with regs := { base.regs with dx := 0x300 }, ioIn := [0xBEEF] }
    (fun t => t.ip == 0x0101) = true := by decide

theorem test_V142_out_20h_al : after [0xE6, 0x20]
    { base with regs := { base.regs with ax := 0x1234 } }
    (fun t => t.ip == 0x0102) = true := by decide

theorem test_V143_out_dx_ax : after [0xEF]
    { base with regs := { base.regs with ax := 0x1234, dx := 0xFF00 } }
    (fun t => t.ip == 0x0101) = true := by decide

theorem test_V144_lea_ax_bx_si_2 : after [0x8D, 0x40, 0x02]
    { base with regs := { base.regs with bx := 0xFFFF, si := 0x10 } }
    (fun t => t.regs.ax == 0x0011 && t.ip == 0x0103) = true := by decide

theorem test_V146_lds_si_bx : after [0xC5, 0x37]
    { base with regs := { base.regs with bx := 0x200 }, mem := [(0x20200, 0x34), (0x20201, 0x12), (0x20203, 0x50)] }
    (fun t => t.regs.si == 0x1234 && t.sregs.ds == 0x5000) = true := by decide

theorem test_V147_les_di_2004h : after [0xC4, 0x3E, 0x04, 0x20]
    { base with mem := [(0x22004, 0x10), (0x22007, 0x60)] }
    (fun t => t.regs.di == 0x0010 && t.sregs.es == 0x6000) = true := by decide

theorem test_V148_enter_8_0 : after [0xC8, 0x08, 0x00, 0x00]
    { base with regs := { base.regs with bp := 0x200 } }
    (fun t => t.regs.sp == 0x00F6 && t.regs.bp == 0x00FE && Memory.read t.mem 0x400FE == 0x00 && Memory.read t.mem 0x400FF == 0x02) = true := by decide

theorem test_V151_leave : after [0xC9]
    { base with regs := { base.regs with sp := 0xF6, bp := 0xFE }, mem := [(0x400FF, 0x02)] }
    (fun t => t.regs.sp == 0x0100 && t.regs.bp == 0x0200) = true := by decide

theorem test_V153_sahf : after [0x9E]
    { base with regs := { base.regs with ax := 0xD500 }, flags := { base.flags with df := true, ofl := true } }
    (fun t => t.flags.zf && t.flags.cf) = true := by decide

theorem test_V156_popf : after [0x9D]
    { base with regs := { base.regs with sp := 0xFE }, mem := [(0x400FE, 0xFF), (0x400FF, 0xFF)] }
    (fun t => t.regs.sp == 0x0100 && t.flags.ofl && t.flags.df) = true := by decide

theorem test_V200_add_al_1 : after [0x04, 0x01]
    { base with regs := { base.regs with ax := 0xFF } }
    (fun t => t.regs.ax == 0x0000 && !t.flags.ofl && t.flags.zf) = true := by decide

theorem test_V201_add_ax_1 : after [0x05, 0x01, 0x00]
    { base with regs := { base.regs with ax := 0x7FFF } }
    (fun t => t.regs.ax == 0x8000 && t.flags.ofl && !t.flags.zf) = true := by decide

theorem test_V202_add_al_bl : after [0x00, 0xD8]
    { base with regs := { base.regs with ax := 0x80, bx := 0x80 } }
    (fun t => t.regs.ax == 0x0000 && t.flags.ofl && t.flags.zf) = true := by decide

theorem test_V203_add_ax_ax : after [0x01, 0xC0]
    { base with regs := { base.regs with ax := 0x8000 } }
    (fun t => t.regs.ax == 0x0000 && t.flags.ofl && t.flags.zf) = true := by decide

theorem test_V204_add_ax_1 : after [0x83, 0xC0, 0xFF]
    { base with regs := { base.regs with ax := 0x1 } }
    (fun t => t.regs.ax == 0x0000 && !t.flags.ofl && t.flags.zf) = true := by decide

theorem test_V205_add_bx_1234h : after [0x81, 0xC3, 0x34, 0x12]
    { base with regs := { base.regs with bx := 0x1111 } }
    (fun t => t.regs.bx == 0x2345 && !t.flags.ofl && !t.flags.zf) = true := by decide

theorem test_V206_add_bl_0fh : after [0x80, 0xC3, 0x0F]
    { base with regs := { base.regs with bx := 0x1 } }
    (fun t => t.regs.bx == 0x0010 && !t.flags.ofl && !t.flags.zf) = true := by decide

theorem test_V208_add_ax_bx : after [0x03, 0x07]
    { base with regs := { base.regs with ax := 0x1, bx := 0x200 }, mem := [(0x20200, 0xFF)] }
    (fun t => t.regs.ax == 0x0100 && !t.flags.ofl && !t.flags.zf) = true := by decide

theorem test_V210_adc_ax_0_with_cf_1 : after [0x15, 0x00, 0x00]
    { base with regs := { base.regs with ax := 0xFFFF }, flags := { base.flags with cf := true } }
    (fun t => t.regs.ax == 0x0000 && !t.flags.ofl && t.flags.zf) = true := by decide

theorem test_V211_adc_al_0_with_cf_1 : after [0x14, 0x00]
    { base with regs := { base.regs with ax := 0xF }, flags := { base.flags with cf := true } }
    (fun t => t.regs.ax == 0x0010 && !t.flags.ofl && !t.flags.zf) = true := by decide

theorem test_V212_adc_ax_bx_with_cf_1_oper : after [0x11, 0xD8]
    { base with regs := { base.regs with ax := 0xFFFF, bx := 0xFFFF }, flags := { base.flags with cf := true } }
    (fun t => !t.flags.ofl && !t.flags.zf) = true := by decide

theorem test_V213_inc_ax : after [0x40]
    { base with regs := { base.regs with ax := 0xFFFF }, flags := { base.flags with cf := true } }
    (fun t => t.regs.ax == 0x0000 && !t.flags.ofl && t.flags.zf) = true := by decide

theorem test_V215_inc_byte_ptr_bx : after [0xFE, 0x07]
    { base with regs := { base.regs with bx := 0x200 }, mem := [(0x20200, 0x7F)] }
    (fun t => Memory.read t.mem 0x20200 == 0x80 && t.flags.ofl && !t.flags.zf) = true := by decide

theorem test_V216_inc_word_ptr_0200h : after [0xFF, 0x06, 0x00, 0x02]
    { base with mem := [(0x20200, 0xFF)] }
    (fun t => Memory.read t.mem 0x20200 == 0x00 && Memory.read t.mem 0x20201 == 0x01 && !t.flags.ofl && !t.flags.zf) = true := by decide

theorem test_V217_sub_al_1 : after [0x2C, 0x01]
    base
    (fun t => t.regs.ax == 0x00FF && !t.flags.ofl && !t.flags.zf) = true := by decide

theorem test_V218_sub_ax_ax : after [0x29, 0xC0]
    { base with regs := { base.regs with ax := 0x1234 }, flags := { base.flags with cf := true } }
    (fun t => t.regs.ax == 0x0000 && !t.flags.ofl && t.flags.zf) = true := by decide

theorem test_V219_sub_ax_1 : after [0x2D, 0x01, 0x00]
    { base with regs := { base.regs with ax := 0x8000 } }
    (fun t => t.regs.ax == 0x7FFF && t.flags.ofl && !t.flags.zf) = true := by decide

theorem test_V220_sub_ax_1 : after [0x83, 0xE8, 0xFF]
    base
    (fun t => t.regs.ax == 0x0001 && !t.flags.ofl && !t.flags.zf) = true := by decide

theorem test_V221_sbb_ax_bx_with_borrow : after [0x19, 0xD8]
    { base with regs := { base.regs with bx := 0xFFFF }, flags := { base.flags with cf := true } }
    (fun t => !t.flags.ofl && t.flags.zf) = true := by decide

theorem test_V222_sbb_al_0_with_cf_1 : after [0x1C, 0x00]
    { base with regs := { base.regs with ax := 0x10 }, flags := { base.flags with cf := true } }
    (fun t => t.regs.ax == 0x000F && !t.flags.ofl && !t.flags.zf) = true := by decide

theorem test_V223_dec_ax : after [0x48]
    base
    (fun t => t.regs.ax == 0xFFFF && !t.flags.ofl && !t.flags.zf) = true := by decide

theorem test_V225_dec_byte_ptr_bx : after [0xFE, 0x0F]
    { base with regs := { base.regs with bx := 0x200 }, mem := [(0x20200, 0x01)] }
    (fun t => Memory.read t.mem 0x20200 == 0x00 && !t.flags.ofl && t.flags.zf) = true := by decide

theorem test_V226_neg_al : after [0xF6, 0xD8]
    { base with regs := { base.regs with ax := 0x1 } }
    (fun t => t.regs.ax == 0x00FF && !t.flags.ofl && !t.flags.zf) = true := by decide

theorem test_V228_neg_ax : after [0xF7, 0xD8]
    { base with flags := { base.flags with cf := true } }
    (fun t => !t.flags.ofl && t.flags.zf) = true := by decide

theorem test_V229_cmp_al_10h : after [0x3C, 0x10]
    { base with regs := { base.regs with ax := 0xF } }
    (fun t => !t.flags.ofl && !t.flags.zf) = true := by decide

theorem test_V230_cmp_ax_bx : after [0x39, 0xD8]
    { base with regs := { base.regs with ax := 0x1234, bx := 0x1234 } }
    (fun t => !t.flags.ofl && t.flags.zf) = true := by decide

theorem test_V232_cmp_word_ptr_bx_7fh : after [0x83, 0x3F, 0x7F]
    { base with regs := { base.regs with bx := 0x200 }, mem := [(0x20200, 0x80)] }
    (fun t => !t.flags.ofl && !t.flags.zf) = true := by decide

theorem test_V233_aaa_after_08_07 : after [0x37]
    { base with regs := { base.regs with ax := 0x10F } }
    (fun t => t.regs.ax == 0x0205 && t.flags.cf) = true := by decide

theorem test_V236_daa_after_38h_45h_7dh : after [0x27]
    { base with regs := { base.regs with ax := 0x7D } }
    (fun t => t.regs.ax == 0x0083 && !t.flags.zf && !t.flags.cf) = true := by decide

theorem test_V240_aas_after_02_05_0fdh_af : after [0x3F]
    { base with regs := { base.regs with ax := 0x1FD }, flags := { base.flags with cf := true, af := true } }
    (fun t => t.regs.ax == 0x0007 && t.flags.cf) = true := by decide

theorem test_V242_das_after_45h_38h_0dh_af : after [0x2F]
    { base with regs := { base.regs with ax := 0xD }, flags := { base.flags with af := true } }
    (fun t => t.regs.ax == 0x0007 && !t.flags.zf && !t.flags.cf) = true := by decide

theorem test_V244_mul_bl : after [0xF6, 0xE3]
    { base with regs := { base.regs with ax := 0x10, bx := 0x10 } }
    (fun t => t.regs.ax == 0x0100 && t.flags.ofl && t.flags.cf) = true := by decide

theorem test_V246_mul_bx : after [0xF7, 0xE3]
    { base with regs := { base.regs with ax := 0xFFFF, dx := 0x1234, bx := 0xFFFF } }
    (fun t => t.regs.ax == 0x0001 && t.regs.dx == 0xFFFE && t.flags.ofl && t.flags.cf) = true := by decide

theorem test_V249_imul_bl : after [0xF6, 0xEB]
    { base with regs := { base.regs with ax := 0xFF, bx := 0x2 } }
    (fun t => t.regs.ax == 0xFFFE && !t.flags.ofl && !t.flags.cf) = true := by decide

theorem test_V252_imul_bx : after [0xF7, 0xEB]
    { base with regs := { base.regs with ax := 0xFFFF, dx := 0x1234, bx := 0xFFFF } }
    (fun t => t.regs.ax == 0x0001 && t.regs.dx == 0x0000 && !t.flags.ofl && !t.flags.cf) = true := by decide

theorem test_V254_imul_ax_bx_10 : after [0x6B, 0xC3, 0x0A]
    { base with regs := { base.regs with bx := 0x64 } }
    (fun t => t.regs.ax == 0x03E8 && !t.flags.ofl && !t.flags.cf) = true := by decide

theorem test_V256_imul_cx_bx_1000h : after [0x69, 0x0F, 0x00, 0x10]
    { base with regs := { base.regs with bx := 0x200 }, mem := [(0x20200, 0x10)] }
    (fun t => t.flags.ofl && t.flags.cf) = true := by decide

theorem test_V258_aam : after [0xD4, 0x0A]
    { base with regs := { base.regs with ax := 0xFF3F } }
    (fun t => t.regs.ax == 0x0603 && !t.flags.zf) = true := by decide

theorem test_V260_aad : after [0xD5, 0x0A]
    { base with regs := { base.regs with ax := 0x603 } }
    (fun t => t.regs.ax == 0x003F && !t.flags.zf) = true := by decide

theorem test_V262_div_bl : after [0xF6, 0xF3]
    { base with regs := { base.regs with ax := 0x64, bx := 0x7 } }
    (fun t => t.regs.ax == 0x020E && t.ip == 0x0102) = true := by decide

theorem test_V263_div_bx : after [0xF7, 0xF3]
    { base with regs := { base.regs with dx := 0x1, bx := 0x3 } }
    (fun t => t.regs.ax == 0x5555 && t.ip == 0x0102) = true := by decide

theorem test_V268_idiv_bl : after [0xF6, 0xFB]
    { base with regs := { base.regs with ax := 0xFF9C, bx := 0x7 } }
    (fun t => t.regs.ax == 0xFEF2 && t.ip == 0x0102) = true := by decide

theorem test_V270_idiv_bx : after [0xF7, 0xFB]
    { base with regs := { base.regs with ax := 0xFFFF, dx := 0xFFFF, bx := 0x2 } }
    (fun t => t.regs.ax == 0x0000 && t.ip == 0x0102) = true := by decide

theorem test_V274_cbw : after [0x98]
    { base with regs := { base.regs with ax := 0x80 } }
    (fun t => t.regs.ax == 0xFF80 && t.ip == 0x0101) = true := by decide

theorem test_V276_cwd : after [0x99]
    { base with regs := { base.regs with ax := 0x8000, dx := 0x1234 } }
    (fun t => t.regs.dx == 0xFFFF && t.ip == 0x0101) = true := by decide

theorem test_V300_not_ax : after [0xF7, 0xD0]
    { base with regs := { base.regs with ax := 0xFF }, flags := { base.flags with cf := true, zf := true } }
    (fun t => t.regs.ax == 0xFF00 && t.ip == 0x0102) = true := by decide

theorem test_V301_not_byte_ptr_bx : after [0xF6, 0x17]
    { base with regs := { base.regs with bx := 0x200 }, mem := [(0x20200, 0xA5)] }
    (fun t => Memory.read t.mem 0x20200 == 0x5A && t.ip == 0x0102) = true := by decide

theorem test_V302_and_ax_0f0fh : after [0x25, 0x0F, 0x0F]
    { base with regs := { base.regs with ax := 0x1234 }, flags := { base.flags with cf := true, ofl := true } }
    (fun t => t.regs.ax == 0x0204 && !t.flags.ofl && !t.flags.zf) = true := by decide

theorem test_V303_and_al_bl : after [0x20, 0xD8]
    { base with regs := { base.regs with ax := 0xF0, bx := 0xF } }
    (fun t => t.regs.ax == 0x0000 && !t.flags.ofl && t.flags.zf) = true := by decide

theorem test_V304_or_al_80h : after [0x0C, 0x80]
    { base with regs := { base.regs with ax := 0x1 }, flags := { base.flags with cf := true } }
    (fun t => t.regs.ax == 0x0081 && !t.flags.ofl && !t.flags.zf) = true := by decide

theorem test_V305_or_ax_ax : after [0x09, 0xC0]
    { base with flags := { base.flags with cf := true, ofl := true } }
    (fun t => !t.flags.ofl && t.flags.zf) = true := by decide

theorem test_V306_xor_ax_ax : after [0x31, 0xC0]
    { base with regs := { base.regs with ax := 0xBEEF }, flags := { base.flags with cf := true, sf := true, ofl := true } }
    (fun t => t.regs.ax == 0x0000 && !t.flags.ofl && t.flags.zf) = true := by decide

theorem test_V307_xor_al_0ffh : after [0x34, 0xFF]
    { base with regs := { base.regs with ax := 0xF } }
    (fun t => t.regs.ax == 0x00F0 && !t.flags.ofl && !t.flags.zf) = true := by decide

theorem test_V309_test_al_80h : after [0xA8, 0x80]
    { base with regs := { base.regs with ax := 0x80 }, flags := { base.flags with cf := true } }
    (fun t => !t.flags.ofl && !t.flags.zf) = true := by decide

theorem test_V310_test_ax_bx : after [0x85, 0xD8]
    { base with regs := { base.regs with ax := 0xF0, bx := 0xF } }
    (fun t => !t.flags.ofl && t.flags.zf) = true := by decide

theorem test_V311_test_byte_ptr_bx_01h : after [0xF6, 0x07, 0x01]
    { base with regs := { base.regs with bx := 0x200 }, mem := [(0x20200, 0x03)] }
    (fun t => !t.flags.ofl && !t.flags.zf) = true := by decide

theorem test_V312_shl_al_1 : after [0xD0, 0xE0]
    { base with regs := { base.regs with ax := 0xC0 } }
    (fun t => t.regs.ax == 0x0080 && !t.flags.ofl && !t.flags.zf) = true := by decide

theorem test_V314_shl_ax_4 : after [0xC1, 0xE0, 0x04]
    { base with regs := { base.regs with ax := 0x1234 } }
    (fun t => t.regs.ax == 0x2340 && !t.flags.zf && t.flags.cf) = true := by decide

theorem test_V315_shl_al_cl_with_cl_0 : after [0xD2, 0xE0]
    { base with regs := { base.regs with ax := 0x81 }, flags := { base.flags with cf := true, zf := true, ofl := true } }
    (fun t => t.ip == 0x0102) = true := by decide

theorem test_V318_shl_ax_cl_with_cl_16 : after [0xD3, 0xE0]
    { base with regs := { base.regs with ax := 0x1, cx := 0x10 } }
    (fun t => t.regs.ax == 0x0000 && t.flags.zf && t.flags.cf) = true := by decide

theorem test_V321_shr_ax_1 : after [0xD1, 0xE8]
    { base with regs := { base.regs with ax := 0x8001 } }
    (fun t => t.regs.ax == 0x4000 && t.flags.ofl && !t.flags.zf) = true := by decide

theorem test_V322_shr_al_cl_with_cl_8 : after [0xD2, 0xE8]
    { base with regs := { base.regs with ax := 0x80, cx := 0x8 } }
    (fun t => t.regs.ax == 0x0000 && t.flags.zf && t.flags.cf) = true := by decide

theorem test_V324_sar_al_1 : after [0xD0, 0xF8]
    { base with regs := { base.regs with ax := 0x81 } }
    (fun t => t.regs.ax == 0x00C0 && !t.flags.ofl && !t.flags.zf) = true := by decide

theorem test_V325_sar_ax_cl_with_cl_15 : after [0xD3, 0xF8]
    { base with regs := { base.regs with ax := 0xFFFF, cx := 0xF } }
    (fun t => !t.flags.zf && t.flags.cf) = true := by decide

theorem test_V327_sar_ax_3 : after [0xC1, 0xF8, 0x03]
    { base with regs := { base.regs with ax := 0xFFF9 } }
    (fun t => t.regs.ax == 0xFFFF && !t.flags.zf && !t.flags.cf) = true := by decide

theorem test_V328_rol_al_1 : after [0xD0, 0xC0]
    { base with regs := { base.regs with ax := 0x81 }, flags := { base.flags with zf := true, sf := true } }
    (fun t => t.regs.ax == 0x0003 && t.flags.ofl && t.flags.cf) = true := by decide

theorem test_V329_rol_al_cl_with_cl_8 : after [0xD2, 0xC0]
    { base with regs := { base.regs with ax := 0x81, cx := 0x8 } }
    (fun t => t.flags.cf && t.ip == 0x0102) = true := by decide

theorem test_V330_rol_ax_4 : after [0xC1, 0xC0, 0x04]
    { base with regs := { base.regs with ax := 0x1234 } }
    (fun t => t.regs.ax == 0x2341 && t.flags.cf) = true := by decide

theorem test_V331_ror_al_1 : after [0xD0, 0xC8]
    { base with regs := { base.regs with ax := 0x1 } }
    (fun t => t.regs.ax == 0x0080 && t.flags.ofl && t.flags.cf) = true := by decide

theorem test_V332_ror_ax_cl_with_cl_4 : after [0xD3, 0xC8]
    { base with regs := { base.regs with ax := 0x1234, cx := 0x4 } }
    (fun t => t.regs.ax == 0x4123 && !t.flags.cf) = true := by decide

theorem test_V333_rcl_al_1 : after [0xD0, 0xD0]
    { base with regs := { base.regs with ax := 0x80 } }
    (fun t => t.regs.ax == 0x0000 && t.flags.ofl && t.flags.cf) = true := by decide

theorem test_V334_rcl_al_cl_with_cl_9 : after [0xD2, 0xD0]
    { base with regs := { base.regs with ax := 0xA5, cx := 0x9 }, flags := { base.flags with cf := true } }
    (fun t => t.flags.cf && t.ip == 0x0102) = true := by decide

theorem test_V335_rcl_ax_1_with_cf_1 : after [0xD1, 0xD0]
    { base with regs := { base.regs with ax := 0x4000 }, flags := { base.flags with cf := true } }
    (fun t => t.regs.ax == 0x8001 && t.flags.ofl && !t.flags.cf) = true := by decide

theorem test_V336_rcr_al_1 : after [0xD0, 0xD8]
    { base with regs := { base.regs with ax := 0x1 }, flags := { base.flags with cf := true } }
    (fun t => t.regs.ax == 0x0080 && t.flags.ofl && t.flags.cf) = true := by decide

theorem test_V337_rcr_ax_cl_with_cl_2 : after [0xD3, 0xD8]
    { base with regs := { base.regs with ax := 0x1, cx := 0x2 } }
    (fun t => t.regs.ax == 0x8000 && !t.flags.cf) = true := by decide

theorem test_V400_movsb_df_0 : after [0xA4]
    { base with regs := { base.regs with si := 0x300, di := 0x400 }, mem := [(0x20300, 0x41)] }
    (fun t => t.regs.si == 0x0301 && t.regs.di == 0x0401 && Memory.read t.mem 0x30400 == 0x41) = true := by decide

theorem test_V401_movsw_df_1 : after [0xA5]
    { base with regs := { base.regs with si := 0x300, di := 0x400 }, flags := { base.flags with df := true }, mem := [(0x20300, 0x34), (0x20301, 0x12)] }
    (fun t => t.regs.si == 0x02FE && t.regs.di == 0x03FE && Memory.read t.mem 0x30400 == 0x34 && Memory.read t.mem 0x30401 == 0x12) = true := by decide

theorem test_V409_cmpsb : after [0xA6]
    { base with regs := { base.regs with si := 0x300, di := 0x400 }, mem := [(0x20300, 0x01), (0x30400, 0x02)] }
    (fun t => t.regs.si == 0x0301 && t.regs.di == 0x0401 && !t.flags.ofl && !t.flags.zf) = true := by decide

theorem test_V414_scasb : after [0xAE]
    { base with regs := { base.regs with ax := 0x43, di := 0x400 }, mem := [(0x30400, 0x44)] }
    (fun t => t.regs.di == 0x0401 && !t.flags.ofl && !t.flags.zf) = true := by decide

theorem test_V418_lodsb : after [0xAC]
    { base with regs := { base.regs with ax := 0xFF00, si := 0x300 }, mem := [(0x20300, 0x7E)] }
    (fun t => t.regs.ax == 0xFF7E && t.regs.si == 0x0301) = true := by decide

theorem test_V420_stosw : after [0xAB]
    { base with regs := { base.regs with ax := 0x1234, di := 0x400 } }
    (fun t => t.regs.di == 0x0402 && Memory.read t.mem 0x30400 == 0x34 && Memory.read t.mem 0x30401 == 0x12) = true := by decide

theorem test_V423_insb : after [0x6C]
    { base with regs := { base.regs with dx := 0x300, di := 0x400 }, ioIn := [0x5A] }
    (fun t => t.regs.di == 0x0401 && Memory.read t.mem 0x30400 == 0x5A) = true := by decide

theorem test_V425_outsw : after [0x6F]
    { base with regs := { base.regs with dx := 0x300, si := 0x300 }, mem := [(0x20300, 0xCD), (0x20301, 0xAB)] }
    (fun t => t.regs.si == 0x0302 && t.ip == 0x0101) = true := by decide

theorem test_V500_je_5_zf_1 : after [0x74, 0x05]
    { base with flags := { base.flags with zf := true } }
    (fun t => t.ip == 0x0107) = true := by decide

theorem test_V502_jne_2 : after [0x75, 0xFE]
    base
    (fun t => t.ip == 0x0100) = true := by decide

theorem test_V503_jl_10h_sf_1_of_0 : after [0x7C, 0x10]
    { base with flags := { base.flags with sf := true } }
    (fun t => t.ip == 0x0112) = true := by decide

theorem test_V505_jg_10h_zf_0_sf_of_1 : after [0x7F, 0x10]
    { base with flags := { base.flags with sf := true, ofl := true } }
    (fun t => t.ip == 0x0112) = true := by decide

theorem test_V506_jle_10h_zf_1 : after [0x7E, 0x10]
    { base with flags := { base.flags with zf := true } }
    (fun t => t.ip == 0x0112) = true := by decide

theorem test_V507_ja_10h_cf_0_zf_0 : after [0x77, 0x10]
    base
    (fun t => t.ip == 0x0112) = true := by decide

theorem test_V509_jbe_10h_cf_1 : after [0x76, 0x10]
    { base with flags := { base.flags with cf := true } }
    (fun t => t.ip == 0x0112) = true := by decide

theorem test_V510_jb_128 : after [0x72, 0x80]
    { base with flags := { base.flags with cf := true } }
    (fun t => t.ip == 0x0082) = true := by decide

theorem test_V511_jo_7fh_of_1 : after [0x70, 0x7F]
    { base with flags := { base.flags with ofl := true } }
    (fun t => t.ip == 0x0181) = true := by decide

theorem test_V512_js_2_sf_0 : after [0x78, 0x02]
    base
    (fun t => t.ip == 0x0102) = true := by decide

theorem test_V513_jp_2_pf_1 : after [0x7A, 0x02]
    { base with flags := { base.flags with pf := true } }
    (fun t => t.ip == 0x0104) = true := by decide

theorem test_V514_jmp_short_0 : after [0xEB, 0x00]
    base
    (fun t => t.ip == 0x0102) = true := by decide

theorem test_V516_jmp_near_1000h : after [0xE9, 0x00, 0x10]
    base
    (fun t => t.ip == 0x1103) = true := by decide

theorem test_V518_jmp_ax : after [0xFF, 0xE0]
    { base with regs := { base.regs with ax := 0x2345 } }
    (fun t => t.ip == 0x2345) = true := by decide

theorem test_V520_jmp_far_5000_0010 : after [0xEA, 0x10, 0x00, 0x00, 0x50]
    base
    (fun t => t.sregs.cs == 0x5000 && t.ip == 0x0010) = true := by decide

theorem test_V521_jmp_dword_ptr_bx : after [0xFF, 0x2F]
    { base with regs := { base.regs with bx := 0x200 }, mem := [(0x20200, 0x20), (0x20203, 0x60)] }
    (fun t => t.sregs.cs == 0x6000 && t.ip == 0x0020) = true := by decide

theorem test_V523_call_near_0010h : after [0xE8, 0x10, 0x00]
    base
    (fun t => t.regs.sp == 0x00FE && Memory.read t.mem 0x400FE == 0x03 && Memory.read t.mem 0x400FF == 0x01) = true := by decide

theorem test_V524_call_bx : after [0xFF, 0xD3]
    { base with regs := { base.regs with bx := 0x500 } }
    (fun t => t.regs.sp == 0x00FE && Memory.read t.mem 0x400FE == 0x02 && Memory.read t.mem 0x400FF == 0x01) = true := by decide

theorem test_V527_call_far_5000_0010 : after [0x9A, 0x10, 0x00, 0x00, 0x50]
    base
    (fun t => t.regs.sp == 0x00FC && t.sregs.cs == 0x5000 && Memory.read t.mem 0x400FC == 0x05 && Memory.read t.mem 0x400FF == 0x10) = true := by decide

theorem test_V528_call_dword_ptr_bx : after [0xFF, 0x1F]
    { base with regs := { base.regs with bx := 0x200 }, mem := [(0x20200, 0x20), (0x20203, 0x60)] }
    (fun t => t.regs.sp == 0x00FC && t.sregs.cs == 0x6000 && Memory.read t.mem 0x400FC == 0x02 && Memory.read t.mem 0x400FF == 0x10) = true := by decide

theorem test_V529_ret : after [0xC3]
    { base with regs := { base.regs with sp := 0xFE }, mem := [(0x400FE, 0x03), (0x400FF, 0x01)] }
    (fun t => t.regs.sp == 0x0100 && t.ip == 0x0103) = true := by decide

theorem test_V530_ret_4 : after [0xC2, 0x04, 0x00]
    { base with regs := { base.regs with sp := 0xFE }, mem := [(0x400FE, 0x03), (0x400FF, 0x01)] }
    (fun t => t.regs.sp == 0x0104 && t.ip == 0x0103) = true := by decide

theorem test_V531_retf : after [0xCB]
    { base with regs := { base.regs with sp := 0xFC }, mem := [(0x400FC, 0x05), (0x400FD, 0x01), (0x400FF, 0x10)] }
    (fun t => t.regs.sp == 0x0100 && t.ip == 0x0105) = true := by decide

theorem test_V532_retf_2 : after [0xCA, 0x02, 0x00]
    { base with regs := { base.regs with sp := 0xFC }, mem := [(0x400FC, 0x05), (0x400FD, 0x01), (0x400FF, 0x70)] }
    (fun t => t.regs.sp == 0x0102 && t.sregs.cs == 0x7000) = true := by decide

theorem test_V533_loop_2_with_cx_2 : after [0xE2, 0xFE]
    { base with regs := { base.regs with cx := 0x2 }, flags := { base.flags with zf := true } }
    (fun t => t.regs.cx == 0x0001 && t.ip == 0x0100) = true := by decide

theorem test_V536_loope_2_cx_2_zf_1 : after [0xE1, 0xFE]
    { base with regs := { base.regs with cx := 0x2 }, flags := { base.flags with zf := true } }
    (fun t => t.regs.cx == 0x0001 && t.ip == 0x0100) = true := by decide

theorem test_V538_loopne_2_cx_2_zf_0 : after [0xE0, 0xFE]
    { base with regs := { base.regs with cx := 0x2 } }
    (fun t => t.regs.cx == 0x0001 && t.ip == 0x0100) = true := by decide

theorem test_V540_jcxz_10h_cx_0 : after [0xE3, 0x10]
    base
    (fun t => t.ip == 0x0112) = true := by decide

theorem test_V542_int_21h : after [0xCD, 0x21]
    { base with flags := { base.flags with cf := true, ifl := true }, mem := [(0x00084, 0x20), (0x00087, 0x08)] }
    (fun t => t.regs.sp == 0x00FA && !t.flags.ifl && !t.flags.tf) = true := by decide

theorem test_V543_int_3 : after [0xCC]
    { base with flags := { base.flags with ifl := true }, mem := [(0x0000C, 0x30), (0x0000F, 0x08)] }
    (fun t => t.regs.sp == 0x00FA && !t.flags.ifl && !t.flags.tf) = true := by decide

theorem test_V545_into_with_of_0 : after [0xCE]
    { base with mem := [(0x00010, 0x40), (0x00013, 0x08)] }
    (fun t => t.ip == 0x0101) = true := by decide

theorem test_V547_bound_ax_bx_inside : after [0x62, 0x07]
    { base with regs := { base.regs with ax := 0x5, bx := 0x200 }, mem := [(0x00014, 0x50), (0x00017, 0x08), (0x20202, 0x05)] }
    (fun t => t.ip == 0x0102) = true := by decide

theorem test_V551_iret : after [0xCF]
    { base with regs := { base.regs with sp := 0xFA }, mem := [(0x400FA, 0x02), (0x400FB, 0x01), (0x400FD, 0x10), (0x400FE, 0xD5), (0x400FF, 0x0A)] }
    (fun t => t.regs.sp == 0x0100 && t.flags.ofl && !t.flags.df) = true := by decide

theorem test_V600_stc : after [0xF9]
    base
    (fun t => t.flags.cf && t.ip == 0x0101) = true := by decide

theorem test_V601_clc : after [0xF8]
    { base with flags := { base.flags with cf := true } }
    (fun t => !t.flags.cf && t.ip == 0x0101) = true := by decide

theorem test_V602_cmc : after [0xF5]
    { base with flags := { base.flags with cf := true } }
    (fun t => !t.flags.cf && t.ip == 0x0101) = true := by decide

theorem test_V604_std : after [0xFD]
    base
    (fun t => t.flags.df && t.ip == 0x0101) = true := by decide

theorem test_V605_cld : after [0xFC]
    { base with flags := { base.flags with df := true } }
    (fun t => !t.flags.df && t.ip == 0x0101) = true := by decide

theorem test_V606_sti : after [0xFB]
    base
    (fun t => t.flags.ifl && t.ip == 0x0101) = true := by decide

theorem test_V607_cli : after [0xFA]
    { base with flags := { base.flags with ifl := true } }
    (fun t => !t.flags.ifl && t.ip == 0x0101) = true := by decide

theorem test_V608_nop : after [0x90]
    { base with flags := { base.flags with cf := true, zf := true } }
    (fun t => t.ip == 0x0101) = true := by decide

theorem test_V609_hlt : after [0xF4]
    base
    (fun t => t.ip == 0x0101) = true := by decide

theorem test_V613_esc : after [0xD8, 0x07]
    { base with regs := { base.regs with bx := 0x200 }, flags := { base.flags with ifl := true }, mem := [(0x0001C, 0x70), (0x0001F, 0x08)] }
    (fun t => t.regs.sp == 0x00FA && !t.flags.ifl && !t.flags.tf) = true := by decide

/-! ### A state that meets the hypotheses of each statement, each clause at the edge of its range -/

/-- The meaning goes on. -/
def goesOn (r : Result) : Bool :=
  match r with
  | .next _ => true
  | _ => false

theorem goesOn_next {r : Result} (h : goesOn r = true) : ∃ t, r = .next t := by
  unfold goesOn at h
  split at h
  · exact ⟨_, rfl⟩
  · exact absurd h (by decide)

/-- The start state with SP and BP set. -/
def withStack (sp bp : Word) : State := { base with regs := { base.regs with sp := sp, bp := bp } }

/-- The start state with SI and DI at the last offset a word may have. -/
def edge : State := { base with regs := { base.regs with si := 0xFFFE, di := 0xFFFE, dx := 0xF6 } }

theorem accessible_mem {m : Mem} {s : State} (h : ea m s ≠ 0xFFFF#16) : Accessible (.mem m) s := fun _ e => by cases e; exact h

theorem accessible_reg (r : Reg16) (s : State) : Accessible (.reg r) s := fun _ e => by cases e

/-- The last offset a word may have. -/
theorem witness_accessible : Accessible (.mem (.direct 0xFFFE)) base := accessible_mem (by decide)

theorem witness_ram (as : List Nat) : Ram as base := fun _ _ => rfl

theorem witness_ram_stack (as : List Nat) (sp bp : Word) : Ram as (withStack sp bp) := fun _ _ => rfl

theorem base_inv : Inv base :=
  ⟨by unfold Memory.wf; decide, fun _ _ => rfl, fun _ h => (nomatch h), fun h => (nomatch h)⟩

theorem witness_DecodeOfEncode :
    (Instr.addRm8R8 (.mem (.disp8 .bp 0xFE)) .dl).wf = true ∧ (Instr.xchgAxR16 .cx).wf = true := by decide

theorem witness_EncodeOfDecode : decode [0x90, 0x55] = .instr .nop [0x55] := by decide

theorem witness_UndefinedEncodings :
    (4 ≤ (0x20#8).toNat / 8 % 8 ∧ 4 ≤ (0xFF#8).toNat / 8 % 8) ∧ (0x08#8).toNat / 8 % 8 = 1 ∧
      ((0x08#8).toNat / 8 % 8 ≠ 0 ∧ (0xFF#8).toNat / 8 % 8 ≠ 0) ∧ (0x30#8).toNat / 8 % 8 = 6 ∧
      (2 ≤ (0x10#8).toNat / 8 % 8 ∧ 2 ≤ (0xFF#8).toNat / 8 % 8) ∧ (0x38#8).toNat / 8 % 8 = 7 ∧
      (192 ≤ (0xC0#8).toNat ∧ 192 ≤ (0xFF#8).toNat) ∧ (192 ≤ (0xD8#8).toNat ∧ (0xD8#8).toNat / 8 % 8 = 3) ∧
      (192 ≤ (0xEF#8).toNat ∧ (0xEF#8).toNat / 8 % 8 = 5) := by decide

/-- NOP at CS:IP. -/
def atNop : State := placeNext [0x90] base

theorem witness_StepRunsInstruction :
    (Instr.nop.wf = true ∧ dueInterrupt atNop = none ∧ atNop.halted = false ∧ atNop.repeating = none ∧ atNop.stale = [] ∧
      repMisused .nop atNop = false ∧
      (∀ k (h : k < (encode .nop).length), atNop.loadByte (phys atNop.sregs.cs (atNop.ip + BitVec.ofNat 16 k)) = (encode .nop)[k])) ∧
      atNop.flags.tf = false ∧
      exec .nop (begin (encode .nop).length atNop) = .next (begin 1 atNop) ∧ (begin 1 atNop).env = [] := by
  refine ⟨by decide, by decide, rfl, rfl⟩

theorem witness_FetchSeesMemoryOrStale :
    (∀ c ∈ ({ base with stale := [(5, 0x90)] } : State).stale, c.1 ≠ 4) ∧ base.region 0x10103 = none ∧
      base.inQueueWindow 0x10103 = true ∧ base.inQueueWindow 0x10106 = false ∧
      ({ base with memMap := [{ base := 0, size := 1, kind := .rom }] } : State).region 0 ≠ none := by decide

/-- The undefined opcode 0FH at CS:IP. -/
def atUndefined : State := placeNext [0x0F] base

theorem witness_UndefinedOpcodeRaises :
    dueInterrupt atUndefined = none ∧ atUndefined.halted = false ∧ atUndefined.repeating = none ∧ atUndefined.flags.tf = false ∧
      atUndefined.stale = [] ∧ atUndefined.env = [] ∧
      decode (fetch atUndefined).1 = .undefined ∧ EntryOk 6 atUndefined := by
  unfold EntryOk; decide

theorem witness_StepKeepsInv : Inv base ∧ goesOn (step base) = true := ⟨base_inv, by decide⟩

theorem witness_OnlyTransfersWriteCs :
    (Instr.jmpFar 0 0x5000).wf = true ∧ (match exec (.jmpFar 0 0x5000) base with
      | .next t => decide (t.sregs.cs ≠ base.sregs.cs)
      | _ => false) = true := by decide

/-- A stack whose top word is 0100H, an image with TF set. -/
def trapImage : State := { base with regs := { base.regs with sp := 0xFE }, mem := [(0x400FF, 0x01)] }

theorem witness_OnlyPopfAndIretSetTf :
    trapImage.flags.tf = false ∧ (match exec .popf trapImage with
      | .next t => t.flags.tf
      | _ => false) = true := by decide

theorem witness_WordsAreLittleEndian :
    (0 < memSize ∧ Ram [0, nextAddr 0] base) ∧ memSize - 1 < memSize ∧ Ram [memSize - 1, nextAddr (memSize - 1)] base :=
  ⟨⟨by decide, witness_ram _⟩, by decide, witness_ram _⟩

theorem witness_WordPastSegmentEndStops :
    ea (.direct 0xFFFF) base = 0xFFFF#16 ∧ ea (.direct 0xFFFD) base + 2 = 0xFFFF#16 ∧
      (0xFFFC#16 < ea (.direct 0xFFFD) base ∧ 0xFFFC#16 < ea (.direct 0xFFFF) base) ∧
      (({ base with regs := { base.regs with cx := 0x21 } } : State).reg8 .cl).toNat % 32 ≠ 0 ∧ (0x1F#8).toNat % 32 ≠ 0 ∧
      (withStack 1 0).regs.sp = 1 ∧ (withStack 3 0).regs.sp = 3 ∧ (7 < 8 ∧ (withStack 15 0).regs.sp - BitVec.ofNat 16 16 = 0xFFFF#16) ∧
      (31 ≤ (31#8).toNat % 32 ∧ (withStack 0x3F 0).regs.sp - BitVec.ofNat 16 64 = 0xFFFF#16) ∧
      (29 + 1 < (31#8).toNat % 32 ∧ (withStack 0x100 0x3B).regs.bp - BitVec.ofNat 16 60 = 0xFFFF#16) ∧
      ((withStack 5 0).regs.sp = 5 ∧ frameOverlaps 3 (withStack 5 0) = false ∧ frameOverlaps 4 (withStack 1 0) = false ∧
        ({ withStack 3 0 with flags := { base.flags with ofl := true } } : State).flags.ofl = true) ∧
      (withStack 0xFFFF 0).regs.sp = 0xFFFF#16 ∧ (withStack 0xFFFD 0).regs.sp = 0xFFFD#16 ∧ (withStack 0xFFFB 0).regs.sp = 0xFFFB#16 ∧
      (withStack 0xFFF1 0).regs.sp + BitVec.ofNat 16 14 = 0xFFFF#16 ∧ (withStack 0 0xFFFF).regs.bp = 0xFFFF#16 := by decide

/-- The start state with both index registers at the last offset, under `REP` or under no prefix. -/
def atLastOffset (rep : Option Rep) : State :=
  { base with regs := { base.regs with si := 0xFFFF, di := 0xFFFF, cx := 1, dx := 0xF6 }, pfx := { Prefixes.none with rep := rep } }

theorem witness_WordPastSegmentEndStops_strings :
    (atLastOffset none).pfx.rep = none ∧ ((atLastOffset (some .rep)).pfx.rep = some .rep ∧ (atLastOffset (some .rep)).regs.cx ≠ 0) ∧
      (atLastOffset none).regs.si = 0xFFFF#16 ∧ (atLastOffset none).regs.di = 0xFFFF#16 ∧
      (atLastOffset none).regs.dx ≤ 0xF6#16 ∧ (atLastOffset none).regs.dx ≠ 0xFFFF#16 ∧
      ((atLastOffset (some .repne)).pfx.rep = some .repne ∧ (atLastOffset (some .repne)).regs.cx ≠ 0) := by decide

/-- A small stack, with a dividend whose quotients by BL do not fit. -/
def smallStack (sp ax bx : Word) : State := { base with regs := { base.regs with sp := sp, ax := ax, bx := bx } }

theorem witness_WordPastSegmentEndStops_entries :
    ((smallStack 1 0 0).regs.sp = 1 ∧ (smallStack 3 0 0).regs.sp = 3 ∧ (smallStack 5 0 0).regs.sp = 5) ∧
      (frameOverlaps 0 (smallStack 5 0 0) = false ∧ frameOverlaps 5 (smallStack 3 0 0) = false ∧
        frameOverlaps 7 (smallStack 1 0 0) = false) ∧
      (smallStack 1 0 0).numericsMode = false ∧ ({ smallStack 1 0 0 with et := true } : State).et = true ∧
      (opByte (.reg .bl) (smallStack 1 0 0) = 0 ∧ opWord (.reg .bx) (smallStack 1 0 0) = 0 ∧
        Accessible (.reg .bx) (smallStack 1 0 0)) ∧
      0xFF < (smallStack 3 0x100 1).regs.ax.toNat / (opByte (.reg .bl) (smallStack 3 0x100 1)).toNat ∧
      127 < (smallStack 5 0x80 1).regs.ax.toInt.tdiv (opByte (.reg .bl) (smallStack 5 0x80 1)).toInt ∧
      ((smallStack 1 0xFFFF 0).reg16 .ax).toInt < ((smallStack 1 0xFFFF 0).loadWord
        (phys (memSeg (.direct 0xFFFC) (smallStack 1 0xFFFF 0)) (ea (.direct 0xFFFC) (smallStack 1 0xFFFF 0)))).toInt :=
  ⟨by decide, by decide, by decide, by decide, ⟨by decide, by decide, accessible_reg _ _⟩, by decide, by decide, by decide⟩

/-- A memory map with ROM, a hole and a device, and the Peripheral Control Block in memory. -/
def mapped : State :=
  { base with
    memMap := [{ base := 0x20000, size := 16, kind := .rom }, { base := 0x20010, size := 16, kind := .absent },
               { base := 0x20020, size := 16, kind := .device }]
    pcbInMemory := true
    pcbBase := 0x20100 }

theorem witness_MemoryMapWrites :
    (mapped.region 0x20000 = some .rom ∧ mapped.region 0x2000F = some .rom) ∧ mapped.region 0x20010 = some .absent ∧
      mapped.region 0x2002F = some .device ∧ (mapped.region 0x20100 = some .device ∧ mapped.region 0x201FF = some .device) ∧
      (mapped.region 0x20030 = none ∧ mapped.region 0x20200 = none) ∧
      0x20000 = phys (memSeg (.direct 0) mapped) (ea (.direct 0) mapped) ∧ mapped.reg8 .al = 0 ∧
      (ea (.direct 0xFFFE) mapped ≠ 0xFFFF#16 ∧ ea (.direct 0x1F) mapped ≠ 0xFFFF#16) ∧ mapped.regs.sp - 2 ≠ 0xFFFF#16 ∧
      0x400FE = phys mapped.sregs.ss (mapped.regs.sp - 2) := by decide

theorem witness_BusCycles :
    phys (memSeg (.direct 0xFFFE) base) (ea (.direct 0xFFFE) base) % 2 = 0 ∧ ea (.direct 0xFFFE) base ≠ 0xFFFF#16 ∧
      phys (memSeg (.direct 0xFFFD) base) (ea (.direct 0xFFFD) base) % 2 = 1 ∧ ∃ t, enter 0x21 base = .ok t :=
  ⟨by decide, by decide, by decide, ⟨_, rfl⟩⟩

theorem witness_MovForms :
    Accessible (.mem (.direct 0xFFFE)) base ∧ (0xFFFE#16 : Word) ≠ 0xFFFF#16 ∧ Ram (bytesOf16 (.mem (.direct 0xFFFE)) base) base ∧
      (RegMem.mem (.direct 0) : Rm8) ≠ .reg .al :=
  ⟨witness_accessible, by decide, witness_ram _, by decide⟩

theorem witness_MovForms_segments :
    Accessible (.mem (.direct 0xFFFE)) base ∧ SReg.ss ≠ .cs ∧ SReg.es ≠ .ss := ⟨witness_accessible, by decide⟩

theorem witness_PushForms :
    ((withStack 0 0).regs.sp - 2 ≠ 0xFFFF#16 ∧ (withStack 2 0).regs.sp - 2 ≠ 0xFFFF#16) ∧ Reg16.ax ≠ .sp ∧
      (RegMem.mem (.direct 0xFFFE) : Rm16) ≠ .reg .sp ∧ Accessible (.mem (.direct 0xFFFE)) (withStack 0 0) :=
  ⟨by decide, by decide, by decide, accessible_mem (by decide)⟩

theorem witness_PopForms :
    (withStack 0xFFFE 0).regs.sp ≠ 0xFFFF#16 ∧ Reg16.ax ≠ .sp ∧ Reg16.bx ≠ .ax ∧
      Accessible (.mem (.direct 0xFFFE)) (withStack 0xFFFE 0) :=
  ⟨by decide, by decide, by decide, accessible_mem (by decide)⟩

theorem witness_PushaAndPopa :
    (∀ k < 8, (withStack 0 0).regs.sp - BitVec.ofNat 16 (2 * k + 2) ≠ 0xFFFF#16) ∧
      (∀ k < 8, (withStack 0xFFF0 0).regs.sp + BitVec.ofNat 16 (2 * k) ≠ 0xFFFF#16) ∧
      Ram ((List.range 16).map fun k => phys (withStack 0 0).sregs.ss ((withStack 0 0).regs.sp - 16 + BitVec.ofNat 16 k))
        (withStack 0 0) ∧ goesOn (exec .pusha (withStack 0 0)) = true :=
  ⟨by decide, by decide, fun _ _ => rfl, by decide⟩

theorem witness_XchgSwaps :
    Accessible (.mem (.direct 0xFFFE)) base ∧ Ram (bytesOf16 (.mem (.direct 0xFFFE)) base) base ∧
      Ram (bytesOf8 (.mem (.direct 0xFFFF)) base) base ∧ Reg16.bx ≠ .ax ∧ Reg8.bl ≠ .al :=
  ⟨witness_accessible, witness_ram _, witness_ram _, by decide, by decide⟩

theorem witness_XlatLeaAndFarPointers :
    ea (.direct 0xFFFC) base ≤ 0xFFFC#16 ∧ ea (.direct 0) base ≤ 0xFFFC#16 ∧ Reg16.bx ≠ .ax := by decide

theorem witness_PortInputAndOutput :
    (0xF7#16 ≤ 0xF7#16 ∧ (0xF7#16 : Word) = (0xF7#8 : Byte).setWidth 16) ∧ (0x100#16 ≤ 0x100#16 ∧ 0x100#16 ≤ 0xFFFF#16) ∧
      (0xF6#16 ≤ 0xF6#16 ∧ (0xF6#16 : Word) = (0xF6#8 : Byte).setWidth 16 ∧ edge.regs.dx = 0xF6#16) ∧
      (0x100#16 ≤ 0xFFFE#16 ∧ (0xFFFE#16 : Word) ≠ 0xFFFF#16) ∧ (0xF6#16).toNat % 2 = 0 ∧ (0xF5#16).toNat % 2 = 1 := by decide

/-- The start state with a port in DX. -/
def withPort (port : Word) : State := { base with regs := { base.regs with dx := port } }

theorem witness_PortsWithoutMeaningStop :
    base.pfx.rep = none ∧ (0xF8#16 ≤ (withPort 0xF8).regs.dx ∧ (withPort 0xF8).regs.dx ≤ 0xFF#16) ∧
      (0xF8#16 ≤ (withPort 0xFF).regs.dx ∧ (withPort 0xFF).regs.dx ≤ 0xFF#16) ∧ 0xF8#8 ≤ 0xF8#8 ∧ 0xF8#8 ≤ 0xFF#8 ∧
      (withPort 0xFFFF).regs.dx = 0xFFFF#16 ∧ (0xF7#16 ≤ (withPort 0xF7).regs.dx ∧ (withPort 0xF7).regs.dx ≤ 0xFF#16) ∧
      (withPort 0xFFFF).regs.si ≠ 0xFFFF#16 := by decide

theorem witness_EnterMakesFrame :
    ((0 : Nat) = (0#8).toNat % 32 ∧ (∀ k, k ≤ 0 → (withStack 2 0).regs.sp - BitVec.ofNat 16 (2 * k + 2) ≠ 0xFFFF#16) ∧
      ∀ k, k + 1 < 0 → (withStack 2 0).regs.bp - BitVec.ofNat 16 (2 * k + 2) ≠ 0xFFFF#16) ∧
      (31 : Nat) = (31#8).toNat % 32 ∧ (∀ k < 32, (withStack 0x40 0x80).regs.sp - BitVec.ofNat 16 (2 * k + 2) ≠ 0xFFFF#16) ∧
      (∀ k < 30, (withStack 0x40 0x80).regs.bp - BitVec.ofNat 16 (2 * k + 2) ≠ 0xFFFF#16) ∧
      Ram ((List.range 64).map fun k => phys (withStack 0x40 0x80).sregs.ss ((withStack 0x40 0x80).regs.sp - BitVec.ofNat 16 (k + 1)))
        (withStack 0x40 0x80) ∧
      (∀ k < 31, 0 < k → ∀ a ∈ wordBytes (withStack 0x40 0x80).sregs.ss ((withStack 0x40 0x80).regs.bp - BitVec.ofNat 16 (2 * k)),
        a ∉ (List.range 64).map fun j => phys (withStack 0x40 0x80).sregs.ss ((withStack 0x40 0x80).regs.sp - BitVec.ofNat 16 (j + 1))) :=
  ⟨⟨by decide, fun k h => by obtain rfl : k = 0 := by omega
                             decide, fun k h => by omega⟩, by decide, by decide, by decide, fun _ _ => rfl, by decide⟩

theorem witness_LeaveUndoesEnter :
    (withStack 0x100 0xFFFE).regs.bp ≠ 0xFFFF#16 ∧ goesOn (exec (.enter 8 0) (withStack 0x100 0)) = true ∧
      goesOn (exec (.enter 8 3) (withStack 0x100 0)) = true ∧
      Ram (wordBytes (withStack 0x100 0).sregs.ss ((withStack 0x100 0).regs.sp - 2)) (withStack 0x100 0) :=
  ⟨by decide, by decide, by decide, fun _ _ => rfl⟩

theorem witness_FlagTransfers :
    (withStack 0 0).regs.sp - 2 ≠ 0xFFFF#16 ∧ (withStack 0xFFFE 0).regs.sp ≠ 0xFFFF#16 := by decide

theorem witness_AddAndSubtract :
    Accessible (.mem (.direct 0xFFFE)) base ∧ Ram (bytesOf16 (.mem (.direct 0xFFFE)) base) base ∧ (RegMem.reg .ax : Rm16) ≠ .reg .bx :=
  ⟨witness_accessible, witness_ram _, by decide⟩

theorem witness_CmpOnlySetsFlags : Accessible (.mem (.direct 0xFFFE)) base := witness_accessible

theorem witness_OverflowIsSignedRange : 0 < 1 ∧ 0 < 16 := by decide

theorem witness_IncDecNeg : Accessible (.mem (.direct 0xFFFE)) base := witness_accessible

theorem witness_Multiplication :
    Accessible (.mem (.direct 0xFFFE)) base ∧ (Instr.imulR16Rm16Imm16 .ax (.reg .bx) 3 = .imulR16Rm16Imm16 .ax (.reg .bx) 3) ∧
      (0xFFFF#16 : Word) = (0xFF#8 : Byte).signExtend 16 :=
  ⟨witness_accessible, rfl, by decide⟩

/-- The start state with AX, BX and DX set. -/
def withAxBxDx (ax bx dx : Word) : State := { base with regs := { base.regs with ax := ax, bx := bx, dx := dx } }

theorem witness_Division_unsigned :
    (opByte (.reg .bl) (withAxBxDx 0xFE01 0xFF 0) ≠ 0 ∧
      (withAxBxDx 0xFE01 0xFF 0).regs.ax.toNat = 0xFF * (opByte (.reg .bl) (withAxBxDx 0xFE01 0xFF 0)).toNat + 0 ∧
      0 < (opByte (.reg .bl) (withAxBxDx 0xFE01 0xFF 0)).toNat ∧ 0xFF ≤ 0xFF) ∧
      Accessible (.reg .bx) (withAxBxDx 5 3 0) ∧ opWord (.reg .bx) (withAxBxDx 5 3 0) ≠ 0 ∧
      (withAxBxDx 5 3 0).regs.dx.toNat * 2 ^ 16 + (withAxBxDx 5 3 0).regs.ax.toNat =
        1 * (opWord (.reg .bx) (withAxBxDx 5 3 0)).toNat + 2 ∧ 2 < (opWord (.reg .bx) (withAxBxDx 5 3 0)).toNat ∧ 1 ≤ 0xFFFF :=
  ⟨by decide, accessible_reg _ _, by decide⟩

theorem witness_Division_signed :
    (opByte (.reg .bl) (withAxBxDx 0xFF81 1 0) ≠ 0 ∧
      -127 ≤ (withAxBxDx 0xFF81 1 0).regs.ax.toInt.tdiv (opByte (.reg .bl) (withAxBxDx 0xFF81 1 0)).toInt ∧
      (withAxBxDx 0x7F 1 0).regs.ax.toInt.tdiv (opByte (.reg .bl) (withAxBxDx 0x7F 1 0)).toInt ≤ 127) ∧
      Accessible (.reg .bx) (withAxBxDx 0x8001 1 0xFFFF) ∧ opWord (.reg .bx) (withAxBxDx 0x8001 1 0xFFFF) ≠ 0 ∧
      -32767 ≤ ((withAxBxDx 0x8001 1 0xFFFF).regs.dx ++ (withAxBxDx 0x8001 1 0xFFFF).regs.ax : BitVec 32).toInt.tdiv
        (opWord (.reg .bx) (withAxBxDx 0x8001 1 0xFFFF)).toInt ∧
      ((withAxBxDx 0x7FFF 1 0).regs.dx ++ (withAxBxDx 0x7FFF 1 0).regs.ax : BitVec 32).toInt.tdiv
        (opWord (.reg .bx) (withAxBxDx 0x7FFF 1 0)).toInt ≤ 32767 :=
  ⟨by decide, accessible_reg _ _, by decide⟩

theorem witness_DivideAndBoundErrors :
    (EntryOk 0 base ∧ opByte (.reg .bl) base = 0 ∧ opWord (.reg .bx) base = 0 ∧ Accessible (.reg .bx) base) ∧
      0xFF < (withAxBxDx 0x100 1 0).regs.ax.toNat / (opByte (.reg .bl) (withAxBxDx 0x100 1 0)).toNat ∧
      127 < (withAxBxDx 0x80 1 0).regs.ax.toInt.tdiv (opByte (.reg .bl) (withAxBxDx 0x80 1 0)).toInt ∧
      (withAxBxDx 0xFF7F 1 0).regs.ax.toInt.tdiv (opByte (.reg .bl) (withAxBxDx 0xFF7F 1 0)).toInt < -128 ∧
      ea (.direct 0xFFFC) base ≠ 0xFFFF#16 ∧ ea (.direct 0xFFFC) base + 2 ≠ 0xFFFF#16 ∧
      (0#16 : Word).toInt ≤ (base.reg16 .ax).toInt ∧ (base.reg16 .ax).toInt ≤ (0#16 : Word).toInt ∧
      (base.reg16 .ax).toInt < (1#16 : Word).toInt ∧ (0xFFFF#16 : Word).toInt < (base.reg16 .ax).toInt ∧ EntryOk 5 base :=
  ⟨⟨by unfold EntryOk; decide, by decide, by decide, accessible_reg _ _⟩, by decide, by decide, by decide, by decide, by decide,
    by decide, by decide, by decide, by decide, by unfold EntryOk; decide⟩

theorem witness_LogicInstructions : Accessible (.mem (.direct 0xFFFE)) base := witness_accessible

/-- The start state with a count in CL. -/
def withCount (c : Word) : State := { base with regs := { base.regs with cx := c } }

theorem witness_Shifts :
    ((withCount 1).reg8 .cl).toNat % 32 = 1 ∧ ((withCount 0xFF).reg8 .cl).toNat % 32 = 31 ∧ (33#8).toNat % 32 = 1 ∧
      (31#8).toNat % 32 = 31 ∧ (1 : Nat) ≠ 0 ∧ (31 : Nat) ≠ 0 := by decide

theorem witness_Rotates : ((withCount 8).reg8 .cl).toNat % 32 = 8 ∧ (31#8).toNat % 32 = 31 ∧ (8 : Nat) ≠ 0 := by decide

theorem witness_Rotates_through_carry : ((withCount 9).reg8 .cl).toNat % 32 = 9 ∧ (17#8).toNat % 32 = 17 ∧ (17 : Nat) ≠ 0 := by decide

theorem witness_ShiftByZero :
    (0#8).toNat % 32 = 0 ∧ (224#8).toNat % 32 = 0 ∧ ((withCount 0).reg8 .cl).toNat % 32 = 0 ∧
      ((withCount 32).reg8 .cl).toNat % 32 = 0 := by decide

theorem witness_StringElements :
    edge.pfx.rep = none ∧ edge.regs.si ≠ 0xFFFF#16 ∧ edge.regs.di ≠ 0xFFFF#16 ∧ Ram (wordBytes edge.sregs.es edge.regs.di) edge :=
  ⟨by decide, by decide, by decide, fun _ _ => rfl⟩

theorem witness_PortStrings :
    edge.pfx.rep = none ∧ edge.regs.dx ≤ 0xF6#16 ∧ edge.regs.dx ≠ 0xFFFF#16 ∧ edge.regs.di ≠ 0xFFFF#16 ∧
      edge.regs.si ≠ 0xFFFF#16 ∧ (withPort 0xF7).regs.dx ≤ 0xF7#16 ∧ 0x100#16 ≤ (withPort 0x100).regs.dx ∧
      (withPort 0xFFFE).regs.dx ≠ 0xFFFF#16 := by decide

/-- A repeat prefix in force, with a count. -/
def repeated (r : Rep) (c : Word) : State :=
  { base with regs := { base.regs with cx := c }, pfx := { Prefixes.none with rep := some r } }

theorem witness_RepeatedStrings :
    (isString .movsb ∧ (repeated .rep 0).pfx.rep = some .rep ∧ (repeated .rep 0).regs.cx = 0) ∧
      (isString .scasb ∧ (repeated .repne 1).pfx.rep = some .repne ∧ Instr.scasb ∈ [Instr.cmpsb, .cmpsw, .scasb, .scasw] ∧
        (repeated .repne 1).regs.cx ≠ 0 ∧
        goesOn (exec .scasb { repeated .repne 1 with pfx := { (repeated .repne 1).pfx with rep := none } }) = true) ∧
      (repeated .rep 0xFFFF).regs.cx ≠ 0 := by
  unfold isString; decide

theorem witness_RepeatMisuseRefused :
    (repeated .repne 1).pfx.rep = some .repne ∧ (repeated .rep 1).pfx.rep = some .rep ∧
      (let s := { atNop with pfx := { Prefixes.none with rep := some .rep } }
       dueInterrupt s = none ∧ s.halted = false ∧ s.repeating = none ∧ s.pfx.rep ≠ none ∧
         decode (fetch s).1 = .instr .nop [0, 0, 0, 0, 0] ∧ ¬isString .nop ∧
         Instr.nop ∉ [Instr.segEs, .segCs, .segSs, .segDs, .lock, .rep, .repne]) := by
  unfold isString; decide

theorem witness_Jumps :
    Accessible (.mem (.direct 0xFFFE)) base ∧ ea (.direct 0xFFFC) base ≤ 0xFFFC#16 ∧ ea (.direct 0) base ≤ 0xFFFC#16 :=
  ⟨witness_accessible, by decide, by decide⟩

theorem witness_Calls :
    (withStack 0 0).regs.sp - 2 ≠ 0xFFFF#16 ∧ (withStack 0 0).regs.sp - 4 ≠ 0xFFFF#16 ∧
      Accessible (.mem (.direct 0xFFFE)) (withStack 0 0) ∧ ea (.direct 0xFFFC) (withStack 0 0) ≤ 0xFFFC#16 :=
  ⟨by decide, by decide, accessible_mem (by decide), by decide⟩

theorem witness_Returns :
    (withStack 0xFFFC 0).regs.sp ≠ 0xFFFF#16 ∧ (withStack 0xFFFC 0).regs.sp + 2 ≠ 0xFFFF#16 ∧
      (withStack 0xFFFE 0).regs.sp ≠ 0xFFFF#16 ∧
      Ram (wordBytes base.sregs.ss (base.regs.sp - 2) ++ wordBytes base.sregs.ss (base.regs.sp - 4)) base ∧
      goesOn (exec (.callNear 0x10) base) = true ∧ goesOn (exec (.callFar 0x10 0x5000) base) = true :=
  ⟨by decide, by decide, by decide, witness_ram _, by decide, by decide⟩

theorem witness_InterruptSequence :
    EntryOk 0 base ∧ EntryOk 255 base ∧ VectorPresent 255 base ∧ Ram (frameBytes base) base :=
  ⟨by unfold EntryOk; decide, by unfold EntryOk; decide, fun _ _ _ => .inl rfl, witness_ram _⟩

theorem witness_SoftwareInterrupts :
    EntryOk 0x21 base ∧ EntryOk 3 base ∧ EntryOk 4 { base with flags := { base.flags with ofl := true } } ∧
      base.flags.ofl = false := by
  unfold EntryOk; decide

theorem witness_IretReturns :
    ((withStack 0xFFFA 0).regs.sp ≠ 0xFFFF#16 ∧ (withStack 0xFFFA 0).regs.sp + 2 ≠ 0xFFFF#16 ∧
      (withStack 0xFFFA 0).regs.sp + 4 ≠ 0xFFFF#16) ∧
      Ram (frameBytes base) base ∧ ∃ t, enter 0x21 base = .ok t :=
  ⟨by decide, witness_ram _, ⟨_, rfl⟩⟩

/-- The start state with interrupts waiting. -/
def waiting (nmi ifl : Bool) : State :=
  { base with nmiPending := nmi, intr := some 12, flags := { base.flags with ifl := ifl } }

/-- A LOCKed repeated string between two iterations, with an NMI pending. -/
def lockedRepeat : State :=
  { waiting true false with
    regs := { base.regs with cx := 2 }
    ip := 0x101
    opIp := 0x102
    pfx := { Prefixes.none with rep := some .rep, lock := true }
    repeating := some .movsb }

theorem witness_BoundaryRecognition :
    (lockedRepeat.repeating.isSome = true ∧ lockedRepeat.pfx.lock = true) ∧
      (boundaryOpen (waiting true false) = true ∧ (waiting true false).nmiPending = true) ∧
      (boundaryOpen (waiting false true) = true ∧ (waiting false true).nmiPending = false ∧ (waiting false true).flags.ifl = true ∧
        (waiting false true).stiShadow = false ∧ (waiting false true).intr = some 12) ∧
      (waiting false false).nmiPending = false ∧ (waiting false false).flags.ifl = false := by decide

/-- A repeated string between two iterations, in the shadow and the delay it began in. -/
def shadowedRepeat : State :=
  { waiting true true with
    regs := { base.regs with cx := 3 }
    ip := 0x101
    opIp := 0x102
    pfx := { Prefixes.none with rep := some .rep }
    repeating := some .movsb
    inhibitNext := true
    stiShadow := true }

theorem shadowedRepeat_inv : Inv shadowedRepeat :=
  ⟨by unfold Memory.wf; decide, fun _ h => (nomatch h),
   fun i h => by
    obtain rfl : i = .movsb := by injection h with h; exact h.symm
    unfold isString; decide, fun h => (nomatch h)⟩

theorem witness_ShadowLastsOneInstruction :
    goesOn (exec .popSs (begin 1 base)) = true ∧ goesOn (exec .sti (begin 1 base)) = true ∧ base.inPrefix = false ∧
      Inv shadowedRepeat ∧ shadowedRepeat.repeating.isSome = true ∧
      (match step shadowedRepeat with
        | .next t => t.repeating.isSome
        | _ => false) = true :=
  ⟨by decide, by decide, rfl, shadowedRepeat_inv, rfl, by decide⟩

theorem witness_RepeatedStrings_interrupted :
    Inv shadowedRepeat ∧ shadowedRepeat.repeating = some .movsb ∧ Ram (frameBytes shadowedRepeat) shadowedRepeat ∧
      ∃ t, takeInterrupt .nmi shadowedRepeat = .ok t := ⟨shadowedRepeat_inv, rfl, fun _ _ => rfl, ⟨_, rfl⟩⟩

/-- The start state with one entry of inputs. -/
def withInput (nmi reset : Bool) : State := { base with env := [{ nmiEdge := nmi, intr := none, test := true, reset := reset }] }

theorem witness_EnvironmentPins :
    ((withInput true false).env = { nmiEdge := true, intr := none, test := true, reset := false } :: [] ∧
      boundaryOpen { withInput true false with env := [] } = true) ∧ ({ withInput true false with nmiPending := true } : State).nmiPending = true ∧
      ∃ u, enter 2 { withInput true false with nmiPending := false } = .ok u := ⟨by decide, rfl, ⟨_, rfl⟩⟩

theorem witness_ResetWhileRunning :
    (withInput true true).env = { nmiEdge := true, intr := none, test := true, reset := true } :: [] := rfl

/-- The start state with TF and IF set and a maskable request. -/
def traced : State := { waiting false true with flags := { base.flags with ifl := true, tf := true } }

theorem witness_SingleStepTrap :
    (base.env = [] ∧ boundaryOpen base = true ∧ base.afterWait = false ∧ base.repeating = none ∧ base.pfx = Prefixes.none ∧
      dueInterrupt base = none) ∧
      ((waiting true false).nmiPending = true ∧ boundaryOpen (waiting true false) = true) ∧
      (traced.env = [] ∧ boundaryOpen traced = true ∧ traced.nmiPending = false ∧ traced.flags.ifl = true ∧ traced.stiShadow = false ∧
        traced.intr = some 12 ∧ dueInterrupt traced = some (.intr 12) ∧ traced.flags.tf = true) ∧
      goesOn (exec .popSs base) = true ∧ goesOn (exec (.movSregRm16 .ss (.reg .ax)) base) = true ∧ goesOn (exec .wait base) = true ∧
      Instr.popSs ∈ [Instr.segEs, .segCs, .segSs, .segDs, .lock, .rep, .repne, .popEs, .popSs, .popDs] := by decide

theorem witness_SingleStepTrap_entered :
    (∃ t, enter 2 { waiting true false with nmiPending := false } = .ok t) ∧
      (∃ t, enter 12 { traced with intr := none, busLog := traced.busLog ++ [.intAck 12] } = .ok t) ∧
      ∃ t, takeInterrupt (.intr 12) traced = .ok t := ⟨⟨_, rfl⟩, ⟨_, rfl⟩, ⟨_, rfl⟩⟩

theorem witness_HaltWaitNopStiPrefixes :
    base.testActive = true ∧ ({ base with testActive := false } : State).testActive = false ∧
      (let s := { base with halted := true }
       s.halted = true ∧ dueInterrupt s = none ∧ s.env = [] ∧ s.inPrefix = false ∧ s.repeating = none ∧ s.pfx = Prefixes.none) ∧
      base.pfx.rep ≠ some .repne ∧ base.pfx.rep ≠ some .rep := by decide

theorem witness_EscapeFaults :
    (base.numericsMode = false ∧ EntryOk 7 base) ∧ ({ base with et := true } : State).et = true ∧
      ({ base with numericsMode := true } : State).numericsMode = true ∧ ({ base with numericsMode := true } : State).et = false ∧
      EntryOk 7 { base with numericsMode := true } := by
  unfold EntryOk; decide

/-! ### Bus cycles and boundaries -/

/-- `20_memory.md` R90: a word at an odd port is two byte cycles, the byte at the port first. -/
theorem test_in_word_at_odd_port : after [0xED] { base with regs := { base.regs with dx := 0x301 }, ioIn := [0xEF, 0xBE] }
    (fun t => t.regs.ax == 0xBEEF && t.busLog == [.input false 0x301 0xEF, .input false 0x302 0xBE]) = true := by decide

/-- `20_memory.md` R82: a word at an odd address is two byte cycles, the byte at the address first. -/
theorem test_mov_word_at_odd_address : after [0xA3, 0x01, 0x00] { base with regs := { base.regs with ax := 0xBEEF } }
    (fun t => t.busLog == [.memWrite false 0x20001 0xEF, .memWrite false 0x20002 0xBE]) = true := by decide

/-- `60_exceptions.md` R531: a repeated string after a segment load is not interrupted between its iterations. -/
theorem test_repeat_in_shadow : (match step shadowedRepeat with
    | .next t => t.inhibitNext && t.nmiPending && t.repeating == some .movsb
    | _ => false) = true := by decide

/-- `60_exceptions.md` R538: an interrupt taken with TF set is followed by the single-step entry. -/
theorem test_trap_after_interrupt : (match step traced with
    | .next t => t.regs.sp == 0xF4 && !t.flags.tf && t.intr == none
    | _ => false) = true := by decide

end Sys2Proof.Tests
end

section
/-! SUPPORT. Proofs of the statements about the state (`10_state.md`), with the lemmas about the control part of the state, the
decoder and the fetch that they rest on. -/

namespace Sys2Proof.Proofs

open Sys2Proof Sys2Proof.Machine Sys2Proof.Safety Sys2Proof.Laws

/-! ### Flags: overflow as the signed range (`10_state.md` R35), and the image of cleared flags -/

/-- The signed sum or difference `x` fits `w` bits. -/
def FitsSigned (w : Nat) (x : Int) : Prop := -(2 ^ (w - 1) : Int) ≤ x ∧ x < 2 ^ (w - 1)

theorem saddOverflow_iff_not_fits {w : Nat} (a b : BitVec w) :
    a.saddOverflow b = true ↔ ¬FitsSigned w (a.toInt + b.toInt) := by
  simp only [BitVec.saddOverflow, FitsSigned, Bool.or_eq_true, decide_eq_true_eq]; omega

theorem ssubOverflow_iff_not_fits {w : Nat} (a b : BitVec w) :
    a.ssubOverflow b = true ↔ ¬FitsSigned w (a.toInt - b.toInt) := by
  simp only [BitVec.ssubOverflow, FitsSigned, Bool.or_eq_true, decide_eq_true_eq]; omega

theorem addW_ofl {w : Nat} (a b : BitVec w) (f : Flags) : (addW a b false f).2.ofl = a.saddOverflow b := by
  have hr : BitVec.ofNat w (a.toNat + b.toNat) = a + b := rfl
  simp [addW, hr, BitVec.saddOverflow_eq, bne]

theorem subW_ofl {w : Nat} (a b : BitVec w) (f : Flags) : (subW a b false f).2.ofl = a.ssubOverflow b := by
  simp only [subW, setSZP_ofl, BitVec.ssubOverflow_eq, Bool.toNat_false, BitVec.sub_zero]
  cases a.msb <;> cases b.msb <;> simp

@[simp] theorem subW_sf {w : Nat} (a b : BitVec w) (f : Flags) : (subW a b false f).2.sf = (a - b).msb := by
  simp [subW, Flags.setSZP]

@[simp] theorem subW_zf {w : Nat} (a b : BitVec w) (f : Flags) : (subW a b false f).2.zf = decide (a = b) := by
  simp [subW, Flags.setSZP, BEq.beq, BitVec.sub_eq_iff_eq_add]

@[simp] theorem subW_cf {w : Nat} (a b : BitVec w) (f : Flags) : (subW a b false f).2.cf = decide (a.toNat < b.toNat) := by
  simp [subW]

/-- SF corrected by OF is the sign of the true difference: operands of one sign do not overflow, and of two signs they decide the
order themselves. -/
theorem sub_msb_xor_ssubOverflow {w : Nat} (a b : BitVec w) :
    ((a - b).msb ^^ a.ssubOverflow b) = decide (a.toInt < b.toInt) := by
  have signs (x : BitVec w) : x.msb = true ↔ x.toInt < 0 := by simp [BitVec.msb_eq_toInt]
  have ha := signs a
  have hb := signs b
  by_cases h : a.msb = b.msb
  · have hno : a.ssubOverflow b = false := by rw [BitVec.ssubOverflow_eq, h]; cases b.msb <;> rfl
    have hr := BitVec.toInt_sub_of_not_ssubOverflow (x := a) (y := b) (by simp [hno])
    rw [hno, BitVec.msb_eq_toInt, hr, Bool.xor_false]
    exact decide_eq_decide.mpr (by omega)
  · rw [BitVec.ssubOverflow_eq]
    cases hma : a.msb <;> cases hmb : b.msb <;> simp_all <;> omega

theorem subW_less {w : Nat} (a b : BitVec w) (f : Flags) :
    Cond.holds .l (subW a b false f).2 = decide (a.toInt < b.toInt) := by
  rw [Cond.holds, subW_sf, subW_ofl, sub_msb_xor_ssubOverflow]

theorem subW_greater {w : Nat} (a b : BitVec w) (f : Flags) :
    Cond.holds .g (subW a b false f).2 = decide (b.toInt < a.toInt) := by
  have h : Cond.holds .g (subW a b false f).2 = !(Cond.holds .l (subW a b false f).2 || (subW a b false f).2.zf) := rfl
  rw [h, subW_less, subW_zf, Bool.eq_iff_iff]
  simp [← BitVec.toInt_inj]; omega

theorem subW_above {w : Nat} (a b : BitVec w) (f : Flags) :
    Cond.holds .a (subW a b false f).2 = decide (b.toNat < a.toNat) := by
  rw [Cond.holds, subW_cf, subW_zf, Bool.eq_iff_iff]
  simp [← BitVec.toNat_inj]; omega

/-- Settles O31: OF is the library's signed overflow, and each condition reads one comparison off it. -/
theorem overflowIsSignedRange : Obligations.OverflowIsSignedRange := by
  intro w a b f _
  refine ⟨?_, ?_, ?_, ?_, ?_, ?_, ?_⟩
  · rw [addW_ofl]; exact saddOverflow_iff_not_fits a b
  · rw [subW_ofl]; exact ssubOverflow_iff_not_fits a b
  · simp [subW_less]
  · simp [subW_greater]
  · simp [Cond.holds]
  · simp [subW_above]
  · simp [Cond.holds]

/-- The image of cleared flags has no bit of R34's nine places (mask 0FD5H), whatever the reserved bits hold. -/
theorem image_cleared_and_mask (u : Word) : State.reset.flags.image u &&& 0x0FD5#16 = 0 := by
  simp only [State.reset, Flags.image]
  generalize u.getLsbD 1 = u1; generalize u.getLsbD 3 = u3; generalize u.getLsbD 5 = u5; generalize u.getLsbD 12 = u12
  generalize u.getLsbD 13 = u13; generalize u.getLsbD 14 = u14; generalize u.getLsbD 15 = u15
  revert u1 u3 u5 u12 u13 u14 u15
  decide

/-! ### Reset -/

/-- Settles O1. -/
theorem resetValues : Obligations.ResetValues := ⟨rfl, rfl, image_cleared_and_mask, rfl⟩

/-- Settles O9: reset lists no memory, and no instruction is in progress. -/
theorem resetInv : Obligations.ResetInv where
  memory := reset_mem_wf
  prefixes _ _ := rfl
  repeated _ h := nomatch h
  halt h := nomatch h
/-! ### The control part of the state -/

/-- The fields that few instructions write: CS, TF, the marks of `10_state.md` R53 and R54, TEST#, and the instruction in progress.
The statements about CS, TF and the two shadows speak of these alone. -/
structure Control where
  cs : Word
  tf : Bool
  inhibitNext : Bool
  stiShadow : Bool
  inShadow : Bool
  inStiShadow : Bool
  halted : Bool
  testActive : Bool
  inPrefix : Bool
  pfx : Prefixes
  repeating : Option Instr

/-- The control part of a state. -/
def control (s : State) : Control where
  cs := s.sregs.cs
  tf := s.flags.tf
  inhibitNext := s.inhibitNext
  stiShadow := s.stiShadow
  inShadow := s.inShadow
  inStiShadow := s.inStiShadow
  halted := s.halted
  testActive := s.testActive
  inPrefix := s.inPrefix
  pfx := s.pfx
  repeating := s.repeating

/-- After an interrupt entry whose vector holds the segment `seg` (`60_exceptions.md` R510). -/
def Control.entered (c : Control) (seg : Word) : Control :=
  { c with cs := seg, tf := false, halted := false, inPrefix := false, pfx := Prefixes.none, repeating := none }

/-- Of an instruction that is not over: both marks are those it began with (log 40). -/
def Control.held (c : Control) : Control := { c with inhibitNext := c.inShadow, stiShadow := c.inStiShadow }

@[simp] theorem control_setReg16 (s : State) (r : Reg16) (v : Word) : control (s.setReg16 r v) = control s := by simp [control]

@[simp] theorem control_setReg8 (s : State) (r : Reg8) (v : Byte) : control (s.setReg8 r v) = control s := by simp [control]

theorem control_setSReg (s : State) (r : SReg) (v : Word) :
    control (s.setSReg r v) = { control s with cs := if r = .cs then v else s.sregs.cs } := by cases r <;> rfl

theorem control_setFlags (s : State) (f : Flags) : control (s.setFlags f) = { control s with tf := f.tf } := rfl

@[simp] theorem control_setFlags_kept (s : State) {f : Flags} (h : f.tf = s.flags.tf) : control (s.setFlags f) = control s := by
  rw [control_setFlags, h]; rfl

@[simp] theorem control_setIp (s : State) (v : Word) : control (s.setIp v) = control s := rfl

@[simp] theorem control_nextFree (s : State) : control s.nextFree = control s := rfl

@[simp] theorem control_logEvents (s : State) (es : List BusEvent) : control (s.logEvents es) = control s := rfl

@[simp] theorem control_jump (s : State) (t : Word) : control (s.jump t) = control s := rfl

@[simp] theorem control_farJump (s : State) (seg off : Word) : control (s.farJump seg off) = { control s with cs := seg } := rfl

@[simp] theorem control_storeByte (s : State) (a : Nat) (v : Byte) : control (s.storeByte a v) = control s := by simp [control]

@[simp] theorem control_storeWord (s : State) (a : Nat) (v : Word) : control (s.storeWord a v) = control s := by simp [control]

/-! ### TF is kept by every flag computation -/

theorem addW_tf {w : Nat} (a b : BitVec w) (c : Bool) (f : Flags) : (addW a b c f).2.tf = f.tf := by simp [addW]

@[simp] theorem subW_tf {w : Nat} (a b : BitVec w) (c : Bool) (f : Flags) : (subW a b c f).2.tf = f.tf := by simp [subW]

theorem logicW_tf {w : Nat} (r : BitVec w) (u : Word) (f : Flags) : (logicW r u f).2.tf = f.tf := by simp [logicW]

@[simp] theorem aluApply_tf {w : Nat} (op : AluOp) (a b : BitVec w) (u : Word) (f : Flags) : (op.apply a b u f).2.tf = f.tf := by
  cases op <;> simp [AluOp.apply, addW_tf, logicW_tf]

@[simp] theorem stepApply_tf {w : Nat} (op : StepOp) (a : BitVec w) (f : Flags) : (op.apply a f).2.tf = f.tf := by
  cases op <;> simp [StepOp.apply, addW_tf]

@[simp] theorem shiftApply_tf {w : Nat} (op : ShiftOp) (a : BitVec w) (c : Nat) (u : Word) (f : Flags) :
    (op.apply a c u f).2.tf = f.tf := by
  simp only [ShiftOp.apply]; split <;> simp

@[simp] theorem afterMul_tf (f : Flags) (c : Bool) (u : Word) : (f.afterMul c u).tf = f.tf := by simp [Flags.afterMul]

@[simp] theorem afterDiv_tf (f : Flags) (u : Word) : (f.afterDiv u).tf = f.tf := by simp [Flags.afterDiv]

@[simp] theorem decimalAdjust_tf (sub : Bool) (al : Byte) (u : Word) (f : Flags) : (decimalAdjust sub al u f).2.tf = f.tf := by
  simp [decimalAdjust]

@[simp] theorem asciiAdjust_tf (sub : Bool) (al ah : Byte) (u : Word) (f : Flags) :
    (asciiAdjust sub al ah u f).2.2.tf = f.tf := by simp [asciiAdjust]

@[simp] theorem afterAsciiMulDiv_tf (f : Flags) (al : Byte) (u : Word) : (f.afterAsciiMulDiv al u).tf = f.tf := by
  simp [Flags.afterAsciiMulDiv]

/-! ### Meanings that may stop: what an answer satisfies -/

/-- Whatever the computation answers satisfies `P`; a stop answers nothing. -/
def Answers {α : Type} (x : Except Stop α) (P : α → Prop) : Prop := ∀ a, x = .ok a → P a

theorem answers_ok {α : Type} {a : α} {P : α → Prop} (h : P a) : Answers (.ok a) P := by
  rintro _ ⟨⟩; exact h

theorem answers_error {α : Type} {e : Stop} {P : α → Prop} : Answers (.error e) P := nofun

theorem answers_bind {α β : Type} {x : Except Stop α} {f : α → Except Stop β} {P : α → Prop} {Q : β → Prop}
    (hx : Answers x P) (hf : ∀ a, P a → Answers (f a) Q) : Answers (x >>= f) Q := by
  intro b hb
  obtain ⟨a, ha, hb⟩ := bind_eq_ok.mp hb
  exact hf a (hx a ha) b hb

theorem answers_ite {α : Type} {p : Prop} [Decidable p] {x y : Except Stop α} {P : α → Prop} (hx : Answers x P) (hy : Answers y P) :
    Answers (if p then x else y) P := by split <;> assumption

/-- The meaning leaves the control part as it was in `s`. -/
abbrev Keeps (s : State) (x : Except Stop State) : Prop := Answers x fun t => control t = control s

/-- The same for a computation that also answers a value. -/
abbrev Reads {α : Type} (s : State) (x : Except Stop (α × State)) : Prop := Answers x fun p => control p.2 = control s

/-- What keeps the control part of a later state keeps that of an earlier one with the same control part. -/
theorem keeps_of_eq {s u : State} {x : Except Stop State} (h : Keeps u x) (hu : control u = control s) : Keeps s x :=
  fun t ht => (h t ht).trans hu

theorem reads_of_eq {α : Type} {s u : State} {x : Except Stop (α × State)} (h : Reads u x) (hu : control u = control s) : Reads s x :=
  fun t ht => (h t ht).trans hu

/-! ### The shared operations keep the control part -/

@[simp] theorem control_writeByte (seg off : Word) (v : Byte) (s : State) : control (writeByte seg off v s) = control s := by
  simp [writeByte]

@[simp] theorem control_readByte (seg off : Word) (s : State) : control (readByte seg off s).2 = control s := rfl

@[simp] theorem readByte_flags (seg off : Word) (s : State) : (readByte seg off s).2.flags = s.flags := by
  simp [readByte, memReadByte]

@[simp] theorem control_setRm8 (rm : Rm8) (v : Byte) (s : State) : control (setRm8 rm v s) = control s := by
  cases rm <;> simp [setRm8]

@[simp] theorem control_getRm8 (rm : Rm8) (s : State) : control (getRm8 rm s).2 = control s := by simp [getRm8_eq]

@[simp] theorem getRm8_flags (rm : Rm8) (s : State) : (getRm8 rm s).2.flags = s.flags := by simp [getRm8_eq]

@[simp] theorem control_advanceSi (s : State) (n : Word) : control (s.advanceSi n) = control s := control_setReg16 _ _ _

@[simp] theorem control_advanceDi (s : State) (n : Word) : control (s.advanceDi n) = control s := control_setReg16 _ _ _

theorem readWord_reads (seg off : Word) (s : State) : Reads s (readWord seg off s) := by
  intro p hp
  obtain ⟨-, rfl⟩ := readWord_eq_ok.mp hp
  rfl

theorem writeWord_keeps (seg off v : Word) (s : State) : Keeps s (writeWord seg off v s) := by
  intro t ht
  obtain ⟨-, rfl⟩ := writeWord_eq_ok.mp ht
  simp [wroteWord]

theorem readPointer_reads (seg off : Word) (s : State) : Answers (readPointer seg off s) fun p => control p.2.2 = control s :=
  answers_ite answers_error (answers_ok rfl)

theorem push_keeps (v : Word) (s : State) : Keeps s (push v s) :=
  keeps_of_eq (writeWord_keeps _ _ _ _) (control_setReg16 _ _ _)

theorem pop_reads (s : State) : Reads s (pop s) := by
  intro p hp
  obtain ⟨-, rfl⟩ := pop_eq_ok.mp hp
  rfl

theorem getRm16_reads (rm : Rm16) (s : State) : Reads s (getRm16 rm s) := by
  intro p hp
  obtain ⟨-, rfl⟩ := getRm16_eq_ok.mp hp
  rfl

theorem setRm16_keeps (rm : Rm16) (v : Word) (s : State) : Keeps s (setRm16 rm v s) := by
  cases rm with
  | reg r => exact answers_ok (control_setReg16 s r v)
  | mem m => exact writeWord_keeps _ _ _ _

theorem checkPort_answers (wide : Bool) (port : Word) : Answers (checkPort wide port) fun _ => True := fun _ _ => trivial

theorem ioReadByte_reads (port : Word) (s : State) : Reads s (ioReadByte port s) :=
  answers_bind (checkPort_answers _ _) fun _ _ => answers_ok rfl

theorem ioReadWord_reads (port : Word) (s : State) : Reads s (ioReadWord port s) :=
  answers_bind (checkPort_answers _ _) fun _ _ => answers_ok rfl

theorem ioWriteByte_keeps (port : Word) (v : Byte) (s : State) : Keeps s (ioWriteByte port v s) :=
  answers_bind (checkPort_answers _ _) fun _ _ => answers_ok rfl

theorem ioWriteWord_keeps (port v : Word) (s : State) : Keeps s (ioWriteWord port v s) :=
  answers_bind (checkPort_answers _ _) fun _ _ => answers_ok rfl

/-! ### Arithmetic and logic keep the control part -/

@[simp] theorem control_binop8With (op : AluOp) (dst : Rm8) (b : Byte) (s : State) : control (binop8With op dst b s) = control s := by
  simp only [binop8With]; split <;> simp

theorem binop16With_keeps (op : AluOp) (dst : Rm16) (b : Word) (s : State) : Keeps s (binop16With op dst b s) :=
  answers_bind (getRm16_reads dst s) fun _ hu =>
    answers_ite (keeps_of_eq (setRm16_keeps _ _ _) (by simp [hu])) (answers_ok (by simp [hu]))

theorem binop8_keeps (op : AluOp) (dst src : Rm8) (s : State) : Keeps s (binop8 op dst src s) := answers_ok (by simp)

theorem binop8Imm_keeps (op : AluOp) (dst : Rm8) (i : Byte) (s : State) : Keeps s (binop8Imm op dst i s) := answers_ok (by simp)

theorem binop16_keeps (op : AluOp) (dst src : Rm16) (s : State) : Keeps s (binop16 op dst src s) :=
  answers_bind (getRm16_reads src s) fun _ hu => keeps_of_eq (binop16With_keeps _ _ _ _) hu

theorem binop16Imm_keeps (op : AluOp) (dst : Rm16) (v : Word) (s : State) : Keeps s (binop16Imm op dst v s) :=
  binop16With_keeps _ _ _ _

theorem incDec8_keeps (op : StepOp) (rm : Rm8) (s : State) : Keeps s (incDec8 op rm s) := answers_ok (by simp)

theorem incDec16_keeps (op : StepOp) (rm : Rm16) (s : State) : Keeps s (incDec16 op rm s) :=
  answers_bind (getRm16_reads rm s) fun _ hu => keeps_of_eq (setRm16_keeps _ _ _) (by simp [hu])

theorem neg8_keeps (rm : Rm8) (s : State) : Keeps s (neg8 rm s) := answers_ok (by simp)

theorem neg16_keeps (rm : Rm16) (s : State) : Keeps s (neg16 rm s) :=
  answers_bind (getRm16_reads rm s) fun _ hu => keeps_of_eq (setRm16_keeps _ _ _) (by simp [hu])

theorem not8_keeps (rm : Rm8) (s : State) : Keeps s (not8 rm s) := answers_ok (by simp)

theorem not16_keeps (rm : Rm16) (s : State) : Keeps s (not16 rm s) :=
  answers_bind (getRm16_reads rm s) fun _ hu => keeps_of_eq (setRm16_keeps _ _ _) hu

theorem shift8_keeps (op : ShiftOp) (rm : Rm8) (n : Byte) (s : State) : Keeps s (shift8 op rm n s) :=
  answers_ite (answers_ok rfl) (answers_ok (by simp))

theorem shift16_keeps (op : ShiftOp) (rm : Rm16) (n : Byte) (s : State) : Keeps s (shift16 op rm n s) :=
  answers_ite (answers_ok rfl) <| answers_bind (getRm16_reads rm s) fun _ hu =>
    answers_bind (keeps_of_eq (setRm16_keeps _ _ _) (by simp [hu])) fun _ ht => answers_ok ht

theorem mul8_keeps (rm : Rm8) (s : State) : Keeps s (mul8 rm s) := answers_ok (by simp)

theorem mul16_keeps (rm : Rm16) (s : State) : Keeps s (mul16 rm s) :=
  answers_bind (getRm16_reads rm s) fun _ hu => answers_ok (by simp [hu])

theorem imul8_keeps (rm : Rm8) (s : State) : Keeps s (imul8 rm s) := answers_ok (by simp)

theorem imul16_keeps (rm : Rm16) (s : State) : Keeps s (imul16 rm s) :=
  answers_bind (getRm16_reads rm s) fun _ hu => answers_ok (by simp [hu])

theorem imulImm_keeps (r : Reg16) (rm : Rm16) (v : Word) (s : State) : Keeps s (imulImm r rm v s) :=
  answers_bind (getRm16_reads rm s) fun _ hu => answers_ok (by simp [hu])

theorem daaOp_keeps (s : State) : Keeps s (daaOp s) := answers_ok (by simp)

theorem dasOp_keeps (s : State) : Keeps s (dasOp s) := answers_ok (by simp)

theorem aaaOp_keeps (s : State) : Keeps s (aaaOp s) := answers_ok (by simp)

theorem aasOp_keeps (s : State) : Keeps s (aasOp s) := answers_ok (by simp)

theorem aamOp_keeps (s : State) : Keeps s (aamOp s) := answers_ok (by simp)

theorem aadOp_keeps (s : State) : Keeps s (aadOp s) := answers_ok (by simp)

theorem cbwOp_keeps (s : State) : Keeps s (cbwOp s) := answers_ok (by simp)

theorem cwdOp_keeps (s : State) : Keeps s (cwdOp s) := answers_ok (by simp)

/-! ### Data transfer keeps the control part -/

theorem mov8_keeps (dst src : Rm8) (s : State) : Keeps s (mov8 dst src s) := answers_ok (by simp)

theorem mov16_keeps (dst src : Rm16) (s : State) : Keeps s (mov16 dst src s) :=
  answers_bind (getRm16_reads src s) fun _ hu => keeps_of_eq (setRm16_keeps _ _ _) hu

theorem pushReg_keeps (r : Reg16) (s : State) : Keeps s (pushReg r s) := push_keeps _ _

theorem pushSReg_keeps (sr : SReg) (s : State) : Keeps s (pushSReg sr s) := push_keeps _ _

theorem pushedRm_reads (rm : Rm16) (s : State) : Reads s (pushedRm rm s) := by
  unfold pushedRm
  split
  · exact answers_ok rfl
  · exact getRm16_reads rm s

theorem pushRm_keeps (rm : Rm16) (s : State) : Keeps s (pushRm rm s) :=
  answers_bind (pushedRm_reads rm s) fun _ hu => keeps_of_eq (push_keeps _ _) hu

theorem popReg_keeps (r : Reg16) (s : State) : Keeps s (popReg r s) :=
  answers_bind (pop_reads s) fun _ hu => answers_ok (by simp [hu])

theorem popRm_keeps (rm : Rm16) (s : State) : Keeps s (popRm rm s) :=
  answers_bind (pop_reads s) fun _ hu => keeps_of_eq (setRm16_keeps _ _ _) hu

theorem pushList_keeps (vs : List Word) (s : State) : Keeps s (pushList vs s) := by
  induction vs generalizing s with
  | nil => exact answers_ok rfl
  | cons v vs ih => exact answers_bind (push_keeps v s) fun u hu => keeps_of_eq (ih u) hu

theorem pushAll_keeps (s : State) : Keeps s (pushAll s) := pushList_keeps _ _

/-- A pop, and then what goes on from the state it leaves. -/
theorem pop_bind_keeps {s u : State} {f : Word × State → Except Stop State} (hu : control u = control s)
    (h : ∀ p : Word × State, control p.2 = control s → Keeps s (f p)) : Keeps s (pop u >>= f) :=
  answers_bind (reads_of_eq (pop_reads u) hu) h

theorem popAll_keeps (s : State) : Keeps s (popAll s) :=
  pop_bind_keeps rfl fun _ hdi => pop_bind_keeps (by simp [hdi]) fun _ hsi => pop_bind_keeps (by simp [hsi]) fun _ hbp =>
    pop_bind_keeps (by simp [hbp]) fun _ hsp => pop_bind_keeps hsp fun _ hbx => pop_bind_keeps (by simp [hbx]) fun _ hdx =>
      pop_bind_keeps (by simp [hdx]) fun _ hcx => pop_bind_keeps (by simp [hcx]) fun _ hax => answers_ok (by simp [hax])

theorem xchg8_keeps (rm : Rm8) (r : Reg8) (s : State) : Keeps s (xchg8 rm r s) := answers_ok (by simp)

theorem xchg16_keeps (rm : Rm16) (r : Reg16) (s : State) : Keeps s (xchg16 rm r s) :=
  answers_bind (getRm16_reads rm s) fun _ hu =>
    answers_bind (keeps_of_eq (setRm16_keeps _ _ _) hu) fun _ ht => answers_ok (by simp [ht])

theorem xlatOp_keeps (s : State) : Keeps s (xlatOp s) := answers_ok (by simp)

theorem in8_keeps (port : Word) (s : State) : Keeps s (in8 port s) :=
  answers_bind (ioReadByte_reads port s) fun _ hu => answers_ok (by simp [hu])

theorem in16_keeps (port : Word) (s : State) : Keeps s (in16 port s) :=
  answers_bind (ioReadWord_reads port s) fun _ hu => answers_ok (by simp [hu])

theorem loadPointer_keeps {sr : SReg} (h : sr ≠ .cs) (r : Reg16) (m : Mem) (s : State) : Keeps s (loadPointer sr r m s) :=
  answers_bind (readPointer_reads _ _ s) fun _ hu => answers_ok (by
    rw [control_setSReg, if_neg h, setReg16_sregs, control_setReg16]; exact hu)

theorem copyFrames_keeps (n : Nat) (s : State) : Keeps s (copyFrames n s) := by
  induction n generalizing s with
  | zero => exact answers_ok rfl
  | succ n ih =>
    exact answers_bind (reads_of_eq (readWord_reads _ _ _) (control_setReg16 s _ _)) fun _ hu =>
      answers_bind (keeps_of_eq (push_keeps _ _) hu) fun _ ht => keeps_of_eq (ih _) ht

theorem pushDisplay_keeps (level : Nat) (frame : Word) (s : State) : Keeps s (pushDisplay level frame s) :=
  answers_ite (answers_ok rfl) (answers_bind (copyFrames_keeps _ s) fun _ hu => keeps_of_eq (push_keeps _ _) hu)

theorem enterFrame_keeps (v : Word) (l : Byte) (s : State) : Keeps s (enterFrame v l s) :=
  answers_bind (push_keeps _ s) fun _ hu =>
    answers_bind (keeps_of_eq (pushDisplay_keeps _ _ _) hu) fun _ ht => answers_ok (by simp [ht])

theorem leaveFrame_keeps (s : State) : Keeps s (leaveFrame s) :=
  pop_bind_keeps (by simp) fun _ hu => answers_ok (by simp [hu])

theorem lahfOp_keeps (s : State) : Keeps s (lahfOp s) := answers_ok (by simp)

theorem sahfOp_keeps (s : State) : Keeps s (sahfOp s) := answers_ok (by simp)

theorem pushPsw_keeps (s : State) : Keeps s (pushPsw s) := push_keeps _ _

/-! ### Near transfers keep the control part -/

@[simp] theorem control_jumpShort (d : Byte) (s : State) : control (jumpShort d s) = control s := rfl

theorem jcc_keeps (c : Cond) (d : Byte) (s : State) : Keeps s (jcc c d s) := answers_ok (by split <;> simp)

theorem loopIf_keeps (cond : Bool) (d : Byte) (s : State) : Keeps s (loopIf cond d s) := answers_ok (by split <;> simp)

theorem jumpIndirect_keeps (rm : Rm16) (s : State) : Keeps s (jumpIndirect rm s) :=
  answers_bind (getRm16_reads rm s) fun _ hu => answers_ok hu

theorem callNearTo_keeps (target : Word) (s : State) : Keeps s (callNearTo target s) :=
  answers_bind (push_keeps _ s) fun _ hu => answers_ok hu

theorem callIndirect_keeps (rm : Rm16) (s : State) : Keeps s (callIndirect rm s) :=
  answers_bind (getRm16_reads rm s) fun _ hu => keeps_of_eq (callNearTo_keeps _ _) hu

theorem retNearTo_keeps (v : Word) (s : State) : Keeps s (retNearTo v s) :=
  answers_bind (pop_reads s) fun _ hu => answers_ok (by simp [hu])

/-! ### An element of a string keeps the control part -/

theorem movs8_keeps (s : State) : Keeps s (movs8 s) := answers_ok (by simp)

theorem movs16_keeps (s : State) : Keeps s (movs16 s) :=
  answers_bind (readWord_reads _ _ s) fun _ hu =>
    answers_bind (keeps_of_eq (writeWord_keeps _ _ _ _) hu) fun _ ht => answers_ok (by simp [ht])

theorem cmps8_keeps (s : State) : Keeps s (cmps8 s) := answers_ok (by simp)

theorem cmps16_keeps (s : State) : Keeps s (cmps16 s) :=
  answers_bind (readWord_reads _ _ s) fun _ hu =>
    answers_bind (reads_of_eq (readWord_reads _ _ _) hu) fun _ ht => answers_ok (by simp [ht])

theorem scas8_keeps (s : State) : Keeps s (scas8 s) := answers_ok (by simp)

theorem scas16_keeps (s : State) : Keeps s (scas16 s) :=
  answers_bind (readWord_reads _ _ s) fun _ hu => answers_ok (by simp [hu])

theorem lods8_keeps (s : State) : Keeps s (lods8 s) := answers_ok (by simp)

theorem lods16_keeps (s : State) : Keeps s (lods16 s) :=
  answers_bind (readWord_reads _ _ s) fun _ hu => answers_ok (by simp [hu])

theorem stos8_keeps (s : State) : Keeps s (stos8 s) := answers_ok (by simp)

theorem stos16_keeps (s : State) : Keeps s (stos16 s) :=
  answers_bind (writeWord_keeps _ _ _ s) fun _ hu => answers_ok (by simp [hu])

theorem ins8_keeps (s : State) : Keeps s (ins8 s) :=
  answers_bind (ioReadByte_reads _ s) fun _ hu => answers_ok (by simp [hu])

theorem ins16_keeps (s : State) : Keeps s (ins16 s) :=
  answers_bind (ioReadWord_reads _ s) fun _ hu =>
    answers_bind (keeps_of_eq (writeWord_keeps _ _ _ _) hu) fun _ ht => answers_ok (by simp [ht])

theorem outs8_keeps (s : State) : Keeps s (outs8 s) :=
  answers_bind (keeps_of_eq (ioWriteByte_keeps _ _ _) (control_readByte _ _ s)) fun _ hu => answers_ok (by simp [hu])

theorem outs16_keeps (s : State) : Keeps s (outs16 s) :=
  answers_bind (readWord_reads _ _ s) fun _ hu =>
    answers_bind (keeps_of_eq (ioWriteWord_keeps _ _ _) hu) fun _ ht => answers_ok (by simp [ht])

/-! ### What an instruction can do to the control part -/

/-- The far transfers (`44_program_transfer.md` R433, R434, R437, R438, R442, R443). -/
inductive FarTransfer : Instr → Prop where
  | callFar (off seg : Word) : FarTransfer (.callFar off seg)
  | callMem32 (m : Mem) : FarTransfer (.callMem32 m)
  | jmpFar (off seg : Word) : FarTransfer (.jmpFar off seg)
  | jmpMem32 (m : Mem) : FarTransfer (.jmpMem32 m)
  | retFar : FarTransfer .retFar
  | retFarImm16 (v : Word) : FarTransfer (.retFarImm16 v)

/-- The instructions whose meaning may be an interrupt entry: the software interrupts, and those that raise an exception. -/
inductive MayEnter : Instr → Prop where
  | int3 : MayEnter .int3
  | intImm8 (n : Byte) : MayEnter (.intImm8 n)
  | into : MayEnter .into
  | bound (r : Reg16) (m : Mem) : MayEnter (.bound r m)
  | esc (x y : BitVec 3) (rm : Rm16) : MayEnter (.esc x y rm)
  | divRm8 (rm : Rm8) : MayEnter (.divRm8 rm)
  | divRm16 (rm : Rm16) : MayEnter (.divRm16 rm)
  | idivRm8 (rm : Rm8) : MayEnter (.idivRm8 rm)
  | idivRm16 (rm : Rm16) : MayEnter (.idivRm16 rm)

/-- All that an instruction that completes can do to the control part: most leave it, and each other case names its instructions. -/
inductive ControlEffect : Instr → Control → Control → Prop where
  | keep {i : Instr} {c : Control} : ControlEffect i c c
  | farTransfer {i : Instr} {c : Control} (hi : FarTransfer i) (seg : Word) : ControlEffect i c { c with cs := seg }
  | entry {i : Instr} {c : Control} (hi : MayEnter i) (seg : Word) : ControlEffect i c (c.entered seg)
  | iret {c : Control} (seg : Word) (tf : Bool) : ControlEffect .iret c { c with cs := seg, tf := tf }
  | popf {c : Control} (tf : Bool) : ControlEffect .popf c { c with tf := tf }
  | popSReg {i : Instr} {c : Control} (hi : i ∈ [Instr.popEs, .popSs, .popDs]) : ControlEffect i c { c with inhibitNext := true }
  | movSReg {c : Control} (sr : SReg) (rm : Rm16) (v : Word) :
      ControlEffect (.movSregRm16 sr rm) c { c with cs := if sr = .cs then v else c.cs, inhibitNext := true }
  | sti {c : Control} (delay : Bool) : ControlEffect .sti c { c with stiShadow := delay }
  | hlt {c : Control} : ControlEffect .hlt c { c with halted := true }
  | prefixByte {i : Instr} {c : Control} (hi : i ∈ [Instr.segEs, .segCs, .segSs, .segDs, .lock, .rep, .repne]) (p : Prefixes) :
      ControlEffect i c { c with pfx := p, inPrefix := true }
  | waits {c : Control} (h : c.testActive = false) : ControlEffect .wait c c.held
  | iterates {i : Instr} {c : Control} (hi : isString i) : ControlEffect i c { c.held with repeating := some i }

/-- A meaning with the effect of the instruction `i` on the control part. -/
abbrev HasEffect (i : Instr) (s : State) (x : Except Stop State) : Prop := Answers x fun t => ControlEffect i (control s) (control t)

theorem hasEffect_of_keeps {i : Instr} {s : State} {x : Except Stop State} (h : Keeps s x) : HasEffect i s x :=
  fun t ht => h t ht ▸ .keep

/-! ### Far transfers -/

theorem callFarTo_effect {i : Instr} (hi : FarTransfer i) (seg off : Word) {s u : State} (hu : control u = control s) :
    HasEffect i s (callFarTo seg off u) :=
  answers_bind (keeps_of_eq (push_keeps _ _) hu) fun _ hu => answers_bind (keeps_of_eq (push_keeps _ _) hu) fun _ ht =>
    answers_ok (by rw [control_farJump, ht]; exact .farTransfer hi seg)

theorem callFarIndirect_effect {i : Instr} (hi : FarTransfer i) (m : Mem) (s : State) : HasEffect i s (callFarIndirect m s) :=
  answers_bind (readPointer_reads _ _ s) fun _ hu => callFarTo_effect hi _ _ hu

theorem jumpFarIndirect_effect {i : Instr} (hi : FarTransfer i) (m : Mem) (s : State) : HasEffect i s (jumpFarIndirect m s) :=
  answers_bind (readPointer_reads _ _ s) fun _ hu => answers_ok (by rw [control_farJump, hu]; exact .farTransfer hi _)

theorem retFarTo_effect {i : Instr} (hi : FarTransfer i) (v : Word) (s : State) : HasEffect i s (retFarTo v s) :=
  answers_bind (pop_reads s) fun _ hu => answers_bind (reads_of_eq (pop_reads _) hu) fun _ ht =>
    answers_ok (by rw [control_farJump, control_setReg16, ht]; exact .farTransfer hi _)

/-! ### Interrupt entries, and the return -/

theorem enter_control {n : Byte} {s t : State} (h : enter n s = .ok t) : ∃ seg, control t = (control s).entered seg :=
  ⟨_, congrArg control (enter_rest h)⟩

theorem enter_effect {i : Instr} (hi : MayEnter i) (n : Byte) {s u : State} (hu : control u = control s) :
    HasEffect i s (enter n u) := by
  intro t ht
  obtain ⟨seg, h⟩ := enter_control ht
  rw [h, hu]
  exact .entry hi seg

@[simp] theorem control_divFlags (s : State) : control s.divFlags = control s := by simp [State.divFlags]

theorem div8_effect {i : Instr} (hi : MayEnter i) (rm : Rm8) (s : State) : HasEffect i s (div8 rm s) :=
  answers_ite (enter_effect hi 0 (by simp)) (hasEffect_of_keeps (answers_ok (by simp)))

theorem idiv8_effect {i : Instr} (hi : MayEnter i) (rm : Rm8) (s : State) : HasEffect i s (idiv8 rm s) :=
  answers_ite (enter_effect hi 0 (by simp)) (hasEffect_of_keeps (answers_ok (by simp)))

theorem div16_effect {i : Instr} (hi : MayEnter i) (rm : Rm16) (s : State) : HasEffect i s (div16 rm s) :=
  answers_bind (getRm16_reads rm s) fun _ hu =>
    answers_ite (enter_effect hi 0 (by simp [hu])) (hasEffect_of_keeps (answers_ok (by simp [hu])))

theorem idiv16_effect {i : Instr} (hi : MayEnter i) (rm : Rm16) (s : State) : HasEffect i s (idiv16 rm s) :=
  answers_bind (getRm16_reads rm s) fun _ hu =>
    answers_ite (enter_effect hi 0 (by simp [hu])) (hasEffect_of_keeps (answers_ok (by simp [hu])))

theorem boundOp_effect {i : Instr} (hi : MayEnter i) (r : Reg16) (m : Mem) (s : State) : HasEffect i s (boundOp r m s) :=
  answers_bind (readWord_reads _ _ s) fun _ hu => answers_bind (reads_of_eq (readWord_reads _ _ _) hu) fun _ ht =>
    answers_ite (enter_effect hi 5 (by simp [ht])) (hasEffect_of_keeps (answers_ok ht))

theorem escape_effect {i : Instr} (hi : MayEnter i) (s : State) : HasEffect i s (escape s) :=
  answers_ite (enter_effect hi 7 (control_setIp _ _)) answers_error

theorem returnFromInterrupt_effect (s : State) : HasEffect .iret s (returnFromInterrupt s) :=
  answers_bind (pop_reads s) fun _ hip => answers_bind (reads_of_eq (pop_reads _) hip) fun _ hcs =>
    answers_bind (reads_of_eq (pop_reads _) hcs) fun _ ht =>
      answers_ok (by rw [control_farJump, control_setFlags, ht]; exact .iret _ _)

/-! ### The other instructions that write the control part -/

theorem popPsw_effect (s : State) : HasEffect .popf s (popPsw s) :=
  answers_bind (pop_reads s) fun _ hu => answers_ok (by rw [control_setFlags, hu]; exact .popf _)

theorem control_withInhibit (s : State) : control { s with inhibitNext := true } = { control s with inhibitNext := true } := rfl

theorem popSReg_effect {i : Instr} (hi : i ∈ [Instr.popEs, .popSs, .popDs]) {sr : SReg} (hsr : sr ≠ .cs) (s : State) :
    HasEffect i s (popSReg sr s) :=
  answers_bind (pop_reads s) fun p hu => answers_ok (by
    have h : control (p.2.setSReg sr p.1) = control s := by rw [control_setSReg, if_neg hsr]; exact hu
    rw [control_withInhibit, h]
    exact .popSReg hi)

theorem loadSReg_effect (sr : SReg) (rm : Rm16) (s : State) : HasEffect (.movSregRm16 sr rm) s (loadSReg sr rm s) :=
  answers_bind (getRm16_reads rm s) fun p hu => answers_ok (by
    have hcs : p.2.sregs.cs = (control s).cs := congrArg Control.cs hu
    rw [control_withInhibit, control_setSReg, hu, hcs]
    exact .movSReg sr rm p.1)

theorem repeatWith_effect {i : Instr} (hi : i ∈ [Instr.segEs, .segCs, .segSs, .segDs, .lock, .rep, .repne]) (r : Rep) (s : State) :
    HasEffect i s (repeatWith r s) := answers_ite answers_error (answers_ok (.prefixByte hi _))

theorem waitOp_effect (s : State) : HasEffect .wait s (waitOp s) := by
  unfold waitOp
  split
  · exact answers_ok .keep
  · next h => exact answers_ok (.waits (Bool.eq_false_iff.mpr h))

/-- After an element the string is over, or stands between two iterations in the marks it began with. -/
theorem control_afterElement (self : Instr) (compare : Bool) (r : Rep) (s : State) :
    control (afterElement self compare r s) = control s ∨
      control (afterElement self compare r s) = { (control s).held with repeating := some self } := by
  simp only [afterElement]
  split
  · exact .inl (control_setReg16 _ _ _)
  · exact .inr rfl

theorem stringStep_effect {self : Instr} (hself : isString self) {compare : Bool} {body : State → Except Stop State}
    (hbody : ∀ s, Keeps s (body s)) (s : State) : HasEffect self s (stringStep self compare body s) := by
  unfold stringStep
  split
  · exact hasEffect_of_keeps (hbody s)
  · refine answers_ite answers_error (answers_ite (answers_ok .keep) (answers_bind (hbody s) fun t ht => answers_ok ?_))
    rcases control_afterElement self compare _ t with h | h <;> rw [h, ht]
    · exact .keep
    · exact .iterates hself

/-! ### Every instruction -/

theorem exec_keeps {i : Instr} {s t : State} {x : Except Stop State} (hx : outcome x = .next t) (h : Keeps s x) :
    ControlEffect i (control s) (control t) := hasEffect_of_keeps h t (outcome_eq_next.mp hx)

theorem exec_effect {i : Instr} {s t : State} {x : Except Stop State} (hx : outcome x = .next t) (h : HasEffect i s x) :
    ControlEffect i (control s) (control t) := h t (outcome_eq_next.mp hx)

/-- What each instruction does to the control part: one group of cases for each shape of meaning. -/
theorem exec_controlEffect {i : Instr} {s t : State} (h : exec i s = .next t) : ControlEffect i (control s) (control t) := by
  cases i <;> dsimp only [exec] at h
  case addRm8R8 | addR8Rm8 | orRm8R8 | orR8Rm8 | adcRm8R8 | adcR8Rm8 | sbbRm8R8 | sbbR8Rm8 | andRm8R8 | andR8Rm8 | subRm8R8
    | subR8Rm8 | xorRm8R8 | xorR8Rm8 | cmpRm8R8 | cmpR8Rm8 | testRm8R8 => exact exec_keeps h (binop8_keeps _ _ _ _)
  case addRm16R16 | addR16Rm16 | orRm16R16 | orR16Rm16 | adcRm16R16 | adcR16Rm16 | sbbRm16R16 | sbbR16Rm16 | andRm16R16
    | andR16Rm16 | subRm16R16 | subR16Rm16 | xorRm16R16 | xorR16Rm16 | cmpRm16R16 | cmpR16Rm16 | testRm16R16
    => exact exec_keeps h (binop16_keeps _ _ _ _)
  case addAlImm8 | orAlImm8 | adcAlImm8 | sbbAlImm8 | andAlImm8 | subAlImm8 | xorAlImm8 | cmpAlImm8 | addRm8Imm8 | orRm8Imm8
    | adcRm8Imm8 | sbbRm8Imm8 | andRm8Imm8 | subRm8Imm8 | xorRm8Imm8 | cmpRm8Imm8 | testAlImm8 | testRm8Imm8
    => exact exec_keeps h (binop8Imm_keeps _ _ _ _)
  case addAxImm16 | orAxImm16 | adcAxImm16 | sbbAxImm16 | andAxImm16 | subAxImm16 | xorAxImm16 | cmpAxImm16 | addRm16Imm16
    | addRm16Imm8 | orRm16Imm16 | adcRm16Imm16 | adcRm16Imm8 | sbbRm16Imm16 | sbbRm16Imm8 | andRm16Imm16 | subRm16Imm16
    | subRm16Imm8 | xorRm16Imm16 | cmpRm16Imm16 | cmpRm16Imm8 | testAxImm16 | testRm16Imm16
    => exact exec_keeps h (binop16Imm_keeps _ _ _ _)
  case incRm8 | decRm8 => exact exec_keeps h (incDec8_keeps _ _ _)
  case incR16 | decR16 | incRm16 | decRm16 => exact exec_keeps h (incDec16_keeps _ _ _)
  case negRm8 => exact exec_keeps h (neg8_keeps _ _)
  case negRm16 => exact exec_keeps h (neg16_keeps _ _)
  case notRm8 => exact exec_keeps h (not8_keeps _ _)
  case notRm16 => exact exec_keeps h (not16_keeps _ _)
  case rolRm8Imm8 | rolRm8One | rolRm8Cl | rorRm8Imm8 | rorRm8One | rorRm8Cl | rclRm8Imm8 | rclRm8One | rclRm8Cl | rcrRm8Imm8
    | rcrRm8One | rcrRm8Cl | shlRm8Imm8 | shlRm8One | shlRm8Cl | shrRm8Imm8 | shrRm8One | shrRm8Cl | sarRm8Imm8 | sarRm8One
    | sarRm8Cl => exact exec_keeps h (shift8_keeps _ _ _ _)
  case rolRm16Imm8 | rolRm16One | rolRm16Cl | rorRm16Imm8 | rorRm16One | rorRm16Cl | rclRm16Imm8 | rclRm16One | rclRm16Cl
    | rcrRm16Imm8 | rcrRm16One | rcrRm16Cl | shlRm16Imm8 | shlRm16One | shlRm16Cl | shrRm16Imm8 | shrRm16One | shrRm16Cl
    | sarRm16Imm8 | sarRm16One | sarRm16Cl => exact exec_keeps h (shift16_keeps _ _ _ _)
  case mulRm8 => exact exec_keeps h (mul8_keeps _ _)
  case mulRm16 => exact exec_keeps h (mul16_keeps _ _)
  case imulRm8 => exact exec_keeps h (imul8_keeps _ _)
  case imulRm16 => exact exec_keeps h (imul16_keeps _ _)
  case imulR16Rm16Imm16 | imulR16Rm16Imm8 => exact exec_keeps h (imulImm_keeps _ _ _ _)
  case daa => exact exec_keeps h (daaOp_keeps _)
  case das => exact exec_keeps h (dasOp_keeps _)
  case aaa => exact exec_keeps h (aaaOp_keeps _)
  case aas => exact exec_keeps h (aasOp_keeps _)
  case aam => exact exec_keeps h (aamOp_keeps _)
  case aad => exact exec_keeps h (aadOp_keeps _)
  case cbw => exact exec_keeps h (cbwOp_keeps _)
  case cwd => exact exec_keeps h (cwdOp_keeps _)
  case movRm8R8 | movR8Rm8 | movAlMoffs8 | movMoffs8Al => exact exec_keeps h (mov8_keeps _ _ _)
  case movRm16R16 | movR16Rm16 | movAxMoffs16 | movMoffs16Ax => exact exec_keeps h (mov16_keeps _ _ _)
  case movRm16Sreg | movRm16Imm16 => exact exec_keeps h (setRm16_keeps _ _ _)
  case pushImm16 | pushImm8 => exact exec_keeps h (push_keeps _ _)
  case pushR16 => exact exec_keeps h (pushReg_keeps _ _)
  case pushEs | pushCs | pushSs | pushDs => exact exec_keeps h (pushSReg_keeps _ _)
  case pushRm16 => exact exec_keeps h (pushRm_keeps _ _)
  case popR16 => exact exec_keeps h (popReg_keeps _ _)
  case popRm16 => exact exec_keeps h (popRm_keeps _ _)
  case pusha => exact exec_keeps h (pushAll_keeps _)
  case popa => exact exec_keeps h (popAll_keeps _)
  case xchgRm8R8 => exact exec_keeps h (xchg8_keeps _ _ _)
  case xchgRm16R16 | xchgAxR16 => exact exec_keeps h (xchg16_keeps _ _ _)
  case xlat => exact exec_keeps h (xlatOp_keeps _)
  case inAlImm8 | inAlDx => exact exec_keeps h (in8_keeps _ _)
  case inAxImm8 | inAxDx => exact exec_keeps h (in16_keeps _ _)
  case outImm8Al | outDxAl => exact exec_keeps h (ioWriteByte_keeps _ _ _)
  case outImm8Ax | outDxAx => exact exec_keeps h (ioWriteWord_keeps _ _ _)
  case enter => exact exec_keeps h (enterFrame_keeps _ _ _)
  case leave => exact exec_keeps h (leaveFrame_keeps _)
  case lahf => exact exec_keeps h (lahfOp_keeps _)
  case sahf => exact exec_keeps h (sahfOp_keeps _)
  case pushf => exact exec_keeps h (pushPsw_keeps _)
  case jo | jno | jb | jae | je | jne | jbe | ja | js | jns | jp | jnp | jl | jge | jle | jg
    => exact exec_keeps h (jcc_keeps _ _ _)
  case loopne | loope | loop => exact exec_keeps h (loopIf_keeps _ _ _)
  case jmpRm16 => exact exec_keeps h (jumpIndirect_keeps _ _)
  case callNear => exact exec_keeps h (callNearTo_keeps _ _)
  case callRm16 => exact exec_keeps h (callIndirect_keeps _ _)
  case retNearImm16 | retNear => exact exec_keeps h (retNearTo_keeps _ _)
  case lea | movR8Imm8 | movR16Imm16 | movRm8Imm8 => exact exec_keeps h (answers_ok (by simp))
  case jmpNear | jmpShort | nop | cmc | clc | stc | cli | cld | std => exact exec_keeps h (answers_ok rfl)
  case jcxz => exact exec_keeps h (answers_ok (by split <;> simp))
  case les | lds => exact exec_keeps h (loadPointer_keeps (by decide) _ _ _)
  case jmpFar => exact exec_effect h (answers_ok (.farTransfer (.jmpFar _ _) _))
  case jmpMem32 => exact exec_effect h (jumpFarIndirect_effect (.jmpMem32 _) _ _)
  case callFar => exact exec_effect h (callFarTo_effect (.callFar _ _) _ _ rfl)
  case callMem32 => exact exec_effect h (callFarIndirect_effect (.callMem32 _) _ _)
  case retFar => exact exec_effect h (retFarTo_effect .retFar _ _)
  case retFarImm16 => exact exec_effect h (retFarTo_effect (.retFarImm16 _) _ _)
  case int3 => exact exec_effect h (enter_effect .int3 _ rfl)
  case intImm8 => exact exec_effect h (enter_effect (.intImm8 _) _ rfl)
  case into => exact exec_effect h (answers_ite (enter_effect .into _ rfl) (answers_ok .keep))
  case iret => exact exec_effect h (returnFromInterrupt_effect _)
  case bound => exact exec_effect h (boundOp_effect (.bound _ _) _ _ _)
  case esc => exact exec_effect h (escape_effect (.esc _ _ _) _)
  case divRm8 => exact exec_effect h (div8_effect (.divRm8 _) _ _)
  case divRm16 => exact exec_effect h (div16_effect (.divRm16 _) _ _)
  case idivRm8 => exact exec_effect h (idiv8_effect (.idivRm8 _) _ _)
  case idivRm16 => exact exec_effect h (idiv16_effect (.idivRm16 _) _ _)
  case popf => exact exec_effect h (popPsw_effect _)
  case popEs | popSs | popDs => exact exec_effect h (popSReg_effect (by simp) (by decide) _)
  case movSregRm16 => exact exec_effect h (loadSReg_effect _ _ _)
  case sti => exact exec_effect h (answers_ok (.sti _))
  case hlt => exact exec_effect h (answers_ok .hlt)
  case wait => exact exec_effect h (waitOp_effect _)
  case segEs | segCs | segSs | segDs | lock => exact exec_effect h (answers_ok (.prefixByte (by simp) _))
  case repne | rep => exact exec_effect h (repeatWith_effect (by simp) _ _)
  case movsb => exact exec_effect h (stringStep_effect (by simp [isString]) movs8_keeps _)
  case movsw => exact exec_effect h (stringStep_effect (by simp [isString]) movs16_keeps _)
  case cmpsb => exact exec_effect h (stringStep_effect (by simp [isString]) cmps8_keeps _)
  case cmpsw => exact exec_effect h (stringStep_effect (by simp [isString]) cmps16_keeps _)
  case scasb => exact exec_effect h (stringStep_effect (by simp [isString]) scas8_keeps _)
  case scasw => exact exec_effect h (stringStep_effect (by simp [isString]) scas16_keeps _)
  case lodsb => exact exec_effect h (stringStep_effect (by simp [isString]) lods8_keeps _)
  case lodsw => exact exec_effect h (stringStep_effect (by simp [isString]) lods16_keeps _)
  case stosb => exact exec_effect h (stringStep_effect (by simp [isString]) stos8_keeps _)
  case stosw => exact exec_effect h (stringStep_effect (by simp [isString]) stos16_keeps _)
  case insb => exact exec_effect h (stringStep_effect (by simp [isString]) ins8_keeps _)
  case insw => exact exec_effect h (stringStep_effect (by simp [isString]) ins16_keeps _)
  case outsb => exact exec_effect h (stringStep_effect (by simp [isString]) outs8_keeps _)
  case outsw => exact exec_effect h (stringStep_effect (by simp [isString]) outs16_keeps _)

/-- Settles O11: of the effects on the control part, the far transfers, the entries and IRET write CS, and MOV to a segment register
would only with CS as its destination, which has no encoding. -/
theorem onlyTransfersWriteCs : Obligations.OnlyTransfersWriteCs := by
  intro i s t hwf h hcs
  replace hcs : (control t).cs ≠ (control s).cs := hcs
  have effect := exec_controlEffect h
  generalize control s = c, control t = d at effect hcs
  cases effect with
  | keep | popf | popSReg | sti | hlt | prefixByte | waits | iterates => exact absurd rfl hcs
  | farTransfer hi => cases hi <;> simp
  | entry hi => cases hi <;> simp
  | iret => simp
  | movSReg sr rm v =>
    have hsr : sr ≠ .cs := by rintro rfl; exact absurd hwf (by simp [Instr.wf])
    exact absurd (if_neg hsr) hcs

/-- Settles O12: of the effects on the control part, only those of POPF and IRET leave TF other than it was or clear. -/
theorem onlyPopfAndIretSetTf : Obligations.OnlyPopfAndIretSetTf := by
  intro i s t h hs ht
  replace hs : (control s).tf = false := hs
  replace ht : (control t).tf = true := ht
  have effect := exec_controlEffect h
  generalize control s = c, control t = d at effect hs ht
  cases effect with
  | keep | farTransfer | popSReg | movSReg | sti | hlt | prefixByte | waits | iterates => exact absurd ht (by simp [Control.held, hs])
  | entry => exact absurd ht Bool.false_ne_true
  | popf => exact .inl rfl
  | iret => exact .inr rfl

/-! ### The two marks (`10_state.md` R53): where an instruction that began without them got them -/

/-- The shadow is set by a segment load, or is that of an instruction that is not over. -/
theorem ControlEffect.inhibitNext_set {i : Instr} {c d : Control} (effect : ControlEffect i c d) (hc : c.inhibitNext = false)
    (hd : d.inhibitNext = true) :
    i ∈ [Instr.popEs, .popSs, .popDs] ∨ (∃ sr rm, i = .movSregRm16 sr rm) ∨
      ((d.repeating = some i ∨ i = .wait ∧ c.testActive = false) ∧ c.inShadow = true) := by
  cases effect with
  | keep | farTransfer | entry | iret | popf | sti | hlt | prefixByte => exact absurd (hc.symm.trans hd) Bool.false_ne_true
  | popSReg hi => exact .inl hi
  | movSReg sr rm => exact .inr (.inl ⟨sr, rm, rfl⟩)
  | waits h => exact .inr (.inr ⟨.inr ⟨rfl, h⟩, hd⟩)
  | iterates => exact .inr (.inr ⟨.inl rfl, hd⟩)

/-- The delay is set by STI, or is that of an instruction that is not over. -/
theorem ControlEffect.stiShadow_set {i : Instr} {c d : Control} (effect : ControlEffect i c d) (hc : c.stiShadow = false)
    (hd : d.stiShadow = true) :
    i = .sti ∨ ((d.repeating = some i ∨ i = .wait ∧ c.testActive = false) ∧ c.inStiShadow = true) := by
  cases effect with
  | keep | farTransfer | entry | iret | popf | popSReg | movSReg | hlt | prefixByte =>
    exact absurd (hc.symm.trans hd) Bool.false_ne_true
  | sti => exact .inl rfl
  | waits h => exact .inr ⟨.inr ⟨rfl, h⟩, hd⟩
  | iterates => exact .inr ⟨.inl rfl, hd⟩

/-- An instruction after which a repeated string is in progress has just run one of its iterations. -/
theorem ControlEffect.eq_of_repeating {i : Instr} {c d : Control} (effect : ControlEffect i c d) (hc : c.repeating = none)
    (hd : d.repeating.isSome = true) : d = { c.held with repeating := some i } := by
  cases effect with
  | keep | farTransfer | iret | popf | popSReg | movSReg | sti | hlt | prefixByte | waits =>
    exact absurd hd (by simp [Control.held, hc])
  | entry => exact absurd hd Bool.false_ne_true
  | iterates => rfl

/-! ### The end of a step -/

theorem retire_repeating (s : State) : (retire s).repeating = s.repeating := by unfold retire; split <;> rfl

theorem retire_inhibitNext (s : State) : (retire s).inhibitNext = s.inhibitNext := by unfold retire; split <;> rfl

theorem retire_stiShadow (s : State) : (retire s).stiShadow = s.stiShadow := by unfold retire; split <;> rfl

theorem enter_repeating {n : Byte} {s t : State} (h : enter n s = .ok t) : t.repeating = none := by
  obtain ⟨seg, h⟩ := enter_control h
  exact congrArg Control.repeating h

theorem takeInterrupt_repeating {d : Due} {s t : State} (h : takeInterrupt d s = .ok t) : t.repeating = none := by
  cases d <;> exact enter_repeating h

/-- The single-step trap is an entry, or nothing. -/
theorem stepTrap_cases {tf0 : Bool} {s t : State} (h : stepTrap tf0 s = .ok t) : t = s ∨ t.repeating = none := by
  unfold stepTrap at h
  split at h
  · obtain ⟨u, -, h⟩ := bind_eq_ok.mp h
    exact .inr (enter_repeating h)
  · exact .inl (Except.ok.inj h).symm

/-- A repeated string that is in progress after the single-step trap was so before it, under the same marks. -/
theorem stepTrap_retire_repeating {tf0 : Bool} {s t : State} (h : stepTrap tf0 (retire s) = .ok t) (ht : t.repeating.isSome = true) :
    s.repeating = t.repeating ∧ s.inhibitNext = t.inhibitNext ∧ s.stiShadow = t.stiShadow := by
  rcases stepTrap_cases h with rfl | hnone
  · exact ⟨(retire_repeating s).symm, (retire_inhibitNext s).symm, (retire_stiShadow s).symm⟩
  · rw [hnone] at ht; exact absurd ht Bool.false_ne_true

/-- The same of the whole end of a step: the inputs write no mark, and a reset ends the string. -/
theorem finishState_repeating {tf0 : Bool} {s t : State} (h : finishState tf0 s = .ok t) (ht : t.repeating.isSome = true) :
    s.repeating = t.repeating ∧ s.inhibitNext = t.inhibitNext ∧ s.stiShadow = t.stiShadow := by
  unfold finishState at h
  split at h
  · exact stepTrap_retire_repeating h ht
  · split at h
    · rw [← Except.ok.inj h] at ht; exact absurd ht Bool.false_ne_true
    · exact (stepTrap_retire_repeating h ht :)

theorem finish_eq_next {tf0 : Bool} {r : Result} {t : State} (h : finish tf0 r = .next t) :
    ∃ u, r = .next u ∧ finishState tf0 u = .ok t := by
  cases r with
  | next u => exact ⟨u, rfl, outcome_eq_next.mp h⟩
  | fault | refused => cases h

/-! ### Between the iterations of a repeated string -/

/-- A step that starts and ends between two iterations has run one, under the marks that held before it. -/
theorem step_between_iterations {s t : State} (hinv : Inv s) (hs : s.repeating.isSome = true) (h : step s = .next t)
    (ht : t.repeating.isSome = true) : t.inhibitNext = s.inhibitNext ∧ t.stiShadow = s.stiShadow := by
  obtain ⟨i, hi⟩ := Option.isSome_iff_exists.mp hs
  obtain ⟨-, -, -, -, -, hhalted⟩ := hinv.repeated i hi
  unfold step at h
  split at h
  · obtain ⟨u, hu, hfinish⟩ := finish_eq_next h
    obtain ⟨hrep, -, -⟩ := finishState_repeating hfinish ht
    rw [← hrep, takeInterrupt_repeating (outcome_eq_next.mp hu)] at ht
    exact absurd ht Bool.false_ne_true
  · rw [hhalted, hi] at h
    obtain ⟨u, hu, hfinish⟩ := finish_eq_next h
    obtain ⟨hrep, hinhibit, hsti⟩ := finishState_repeating hfinish ht
    have hd := (exec_controlEffect hu).eq_of_repeating rfl (by rw [← hrep] at ht; exact ht)
    exact ⟨hinhibit ▸ congrArg Control.inhibitNext hd, hsti ▸ congrArg Control.stiShadow hd⟩

theorem dueInterrupt_none_of_inhibitNext {s : State} (h : s.inhibitNext = true) : dueInterrupt s = none := by
  simp [dueInterrupt, boundaryOpen, h]

theorem dueInterrupt_ne_intr_of_stiShadow {s : State} (h : s.stiShadow = true) (n : Byte) : dueInterrupt s ≠ some (.intr n) := by
  unfold dueInterrupt
  split
  · split <;> simp [h]
  · simp

/-- Settles O54: an instruction begins with both marks clear, so the effects on the control part say where one came from. -/
theorem shadowLastsOneInstruction : Obligations.ShadowLastsOneInstruction := by
  refine ⟨fun i len s t h => ?_, fun s len hs => ?_, fun s t hinv hs h ht => ?_⟩
  · exact ⟨(exec_controlEffect h).inhibitNext_set rfl, (exec_controlEffect h).stiShadow_set rfl⟩
  · simp [begin, hs]
  · obtain ⟨hinhibit, hsti⟩ := step_between_iterations hinv hs h ht
    exact ⟨hinhibit, hsti, fun hmark => dueInterrupt_none_of_inhibitNext (hinhibit.trans hmark),
      fun hmark => dueInterrupt_ne_intr_of_stiShadow (hsti.trans hmark)⟩

/-! ### Reading back what the encoder writes -/

@[simp] theorem takeByte_cons (b : Byte) (bs : List Byte) (k : Byte → List Byte → Decoded) : takeByte (b :: bs) k = k b bs := rfl

@[simp] theorem takeWord_encWord (v : Word) (bs : List Byte) (k : Word → List Byte → Decoded) :
    takeWord (encWord v ++ bs) k = k v bs := by
  simp [takeWord, encWord]

/-- The three fields of a ModRM byte. -/
theorem modrm_fields (md : BitVec 2) (reg rm : BitVec 3) :
    modField (modrm md reg rm) = md.toNat ∧ regField (modrm md reg rm) = reg.toNat ∧ rmField (modrm md reg rm) = rm.toNat := by
  revert md reg rm; decide

@[simp] theorem modField_modrm (md : BitVec 2) (reg rm : BitVec 3) : modField (modrm md reg rm) = md.toNat :=
  (modrm_fields md reg rm).1

@[simp] theorem regField_modrm (md : BitVec 2) (reg rm : BitVec 3) : regField (modrm md reg rm) = reg.toNat :=
  (modrm_fields md reg rm).2.1

@[simp] theorem rmField_modrm (md : BitVec 2) (reg rm : BitVec 3) : rmField (modrm md reg rm) = rm.toNat :=
  (modrm_fields md reg rm).2.2

@[simp] theorem eaBaseOf_codeBase (b : EaBase) : eaBaseOf (codeBase b).toNat = b := by cases b <;> rfl

@[simp] theorem reg8Of_codeReg8 (r : Reg8) : reg8Of (codeReg8 r).toNat = r := by cases r <;> rfl

@[simp] theorem reg16Of_codeReg16 (r : Reg16) : reg16Of (codeReg16 r).toNat = r := by cases r <;> rfl

/-- Only `[BP]` has the code that without displacement means a direct address (`30_encoding.md` R130). -/
theorem codeBase_eq_six {b : EaBase} : (codeBase b).toNat = 6 ↔ b = .bp := by cases b <;> decide

/-- A memory operand's bytes: the ModRM byte, and the displacement that `takeMem` reads back. -/
theorem encMem_eq (reg : BitVec 3) (m : Mem) (h : m.wf = true) :
    ∃ md rm disp, encMem reg m = modrm md reg rm :: disp ∧ md ≠ 3 ∧ disp.length ≤ 2 ∧
      ∀ bs k, takeMem md.toNat rm.toNat (disp ++ bs) k = k m bs := by
  cases m with
  | direct a => exact ⟨0, 6, encWord a, rfl, by decide, (Nat.le_refl _), fun bs k => by simp [takeMem]⟩
  | plain b =>
    have hb : ¬(codeBase b).toNat = 6 := fun e => by simp [Mem.wf, codeBase_eq_six.mp e] at h
    exact ⟨0, codeBase b, [], rfl, by decide, by simp, fun bs k => by simp [takeMem, hb]⟩
  | disp8 b d => exact ⟨1, codeBase b, [d], rfl, by decide, by simp, fun bs k => by simp [takeMem]⟩
  | disp16 b d => exact ⟨2, codeBase b, encWord d, rfl, by decide, (Nat.le_refl _), fun bs k => by simp [takeMem]⟩

theorem takeMemOnly_encMem (reg : BitVec 3) {m : Mem} (h : m.wf = true) (bs : List Byte) (k : Nat → Mem → List Byte → Decoded) :
    takeMemOnly (encMem reg m ++ bs) k = k reg.toNat m bs := by
  obtain ⟨md, rm, disp, henc, hmd, -, hread⟩ := encMem_eq reg m h
  have hmd' : md.toNat ≠ 3 := fun e => hmd (BitVec.eq_of_toNat_eq e)
  simp [henc, takeMemOnly, hmd', hread]

theorem takeRm_encMem {ρ : Type} (regOf : Nat → ρ) (reg : BitVec 3) {m : Mem} (h : m.wf = true) (bs : List Byte)
    (k : Nat → RegMem ρ → List Byte → Decoded) : takeRm regOf (encMem reg m ++ bs) k = k reg.toNat (.mem m) bs := by
  obtain ⟨md, rm, disp, henc, hmd, -, hread⟩ := encMem_eq reg m h
  have hmd' : md.toNat ≠ 3 := fun e => hmd (BitVec.eq_of_toNat_eq e)
  simp [henc, takeRm, hmd', hread]

theorem takeRm_encRm8 (reg : BitVec 3) {rm : Rm8} (h : rm.wf = true) (bs : List Byte) (k : Nat → Rm8 → List Byte → Decoded) :
    takeRm reg8Of (encRm8 reg rm ++ bs) k = k reg.toNat rm bs := by
  cases rm with
  | reg r => simp [encRm8, takeRm]
  | mem m => exact takeRm_encMem reg8Of reg h bs k

theorem takeRm_encRm16 (reg : BitVec 3) {rm : Rm16} (h : rm.wf = true) (bs : List Byte) (k : Nat → Rm16 → List Byte → Decoded) :
    takeRm reg16Of (encRm16 reg rm ++ bs) k = k reg.toNat rm bs := by
  cases rm with
  | reg r => simp [encRm16, takeRm]
  | mem m => exact takeRm_encMem reg16Of reg h bs k

/-- The ModRM byte stands first, and at most two bytes of displacement follow it. -/
def StartsWithModrm (reg : BitVec 3) (bs : List Byte) : Prop := ∃ md rm disp, bs = modrm md reg rm :: disp ∧ disp.length ≤ 2

theorem startsWithModrm_encMem (reg : BitVec 3) {m : Mem} (h : m.wf = true) : StartsWithModrm reg (encMem reg m) := by
  obtain ⟨md, rm, disp, henc, -, hlen, -⟩ := encMem_eq reg m h
  exact ⟨md, rm, disp, henc, hlen⟩

theorem startsWithModrm_encRm8 (reg : BitVec 3) {rm : Rm8} (h : rm.wf = true) : StartsWithModrm reg (encRm8 reg rm) := by
  cases rm with
  | reg r => exact ⟨3, codeReg8 r, [], rfl, by simp⟩
  | mem m => exact startsWithModrm_encMem reg h

theorem startsWithModrm_encRm16 (reg : BitVec 3) {rm : Rm16} (h : rm.wf = true) : StartsWithModrm reg (encRm16 reg rm) := by
  cases rm with
  | reg r => exact ⟨3, codeReg16 r, [], rfl, by simp⟩
  | mem m => exact startsWithModrm_encMem reg h

/-! ### Complete encodings -/

/-- The bytes are a complete encoding of the instruction: no more than the longest has, and what follows them does not matter. -/
def Encodes (bs : List Byte) (i : Instr) : Prop := bs.length ≤ maxLength ∧ ∀ rest, decode (bs ++ rest) = .instr i rest

/-- The row of an opcode byte is looked up with `modrm[5:3]` of the byte after it, or 0 when there is none. -/
theorem decode_cons (op : Byte) (bs : List Byte) : decode (op :: bs) = (opcodeRow op (regField (bs.headD 0))).read bs := by
  cases bs <;> rfl

section Formats

/-! One lemma for each format of R122: an opcode byte whose row has the format, then the operands. Where the row depends on
`modrm[5:3]`, `d` is that field. -/

theorem encodes_of_read {op : Byte} {operands : List Byte} {i : Instr} {row : Row} (hlen : operands.length ≤ 5)
    (hrow : ∀ rest, opcodeRow op (regField ((operands ++ rest).headD 0)) = row)
    (hread : ∀ rest, row.read (operands ++ rest) = .instr i rest) : Encodes (op :: operands) i :=
  ⟨by simp [maxLength]; omega, fun rest => by rw [List.cons_append, decode_cons, hrow, hread]⟩

theorem encodes_modrm {op : Byte} {d : BitVec 3} {modrmBytes tail : List Byte} {i : Instr} {row : Row}
    (hrow : opcodeRow op d.toNat = row) (hm : StartsWithModrm d modrmBytes) (hlen : tail.length ≤ 2)
    (hread : ∀ rest, row.read (modrmBytes ++ (tail ++ rest)) = .instr i rest) : Encodes (op :: (modrmBytes ++ tail)) i := by
  obtain ⟨md, rm, disp, rfl, hdisp⟩ := hm
  refine encodes_of_read (row := row) (by simp; omega) (fun rest => ?_) fun rest => by rw [List.append_assoc, hread]
  simpa using hrow

theorem encodes_modrm_only {op : Byte} {d : BitVec 3} {modrmBytes : List Byte} {i : Instr} {row : Row}
    (hrow : opcodeRow op d.toNat = row) (hm : StartsWithModrm d modrmBytes)
    (hread : ∀ rest, row.read (modrmBytes ++ rest) = .instr i rest) : Encodes (op :: modrmBytes) i := by
  simpa using encodes_modrm (tail := []) hrow hm (by simp) hread

variable {op : Byte} {d : BitVec 3}

theorem encodes_o {i : Instr} (hrow : ∀ n, opcodeRow op n = .o i) : Encodes [op] i :=
  encodes_of_read (operands := []) (by simp) (fun _ => hrow _) fun _ => rfl

theorem encodes_second {b : Byte} {i : Instr} (hrow : ∀ n, opcodeRow op n = .second b i) : Encodes [op, b] i :=
  encodes_of_read (operands := [b]) (by simp) (fun _ => hrow _) fun _ => by simp [Row.read]

theorem encodes_i8 {f : Byte → Instr} (hrow : ∀ n, opcodeRow op n = .i8 f) (b : Byte) : Encodes [op, b] (f b) :=
  encodes_of_read (operands := [b]) (by simp) (fun _ => hrow _) fun _ => rfl

theorem encodes_i16 {f : Word → Instr} (hrow : ∀ n, opcodeRow op n = .i16 f) (v : Word) : Encodes (op :: encWord v) (f v) :=
  encodes_of_read (by simp [encWord]) (fun _ => hrow _) fun _ => by simp [Row.read]

theorem encodes_i16i8 {f : Word → Byte → Instr} (hrow : ∀ n, opcodeRow op n = .i16i8 f) (v : Word) (b : Byte) :
    Encodes (op :: (encWord v ++ [b])) (f v b) :=
  encodes_of_read (by simp [encWord]) (fun _ => hrow _) fun _ => by simp [Row.read]

theorem encodes_p32 {f : Word → Word → Instr} (hrow : ∀ n, opcodeRow op n = .p32 f) (off seg : Word) :
    Encodes (op :: (encWord off ++ encWord seg)) (f off seg) :=
  encodes_of_read (by simp [encWord]) (fun _ => hrow _) fun _ => by simp [Row.read]

theorem encodes_m8 {f : Rm8 → Instr} (hrow : opcodeRow op d.toNat = .m8 f) {rm : Rm8} (h : rm.wf = true) :
    Encodes (op :: encRm8 d rm) (f rm) :=
  encodes_modrm_only hrow (startsWithModrm_encRm8 d h) fun _ => by simp [Row.read, takeRm_encRm8 d h]

theorem encodes_m16 {f : Rm16 → Instr} (hrow : opcodeRow op d.toNat = .m16 f) {rm : Rm16} (h : rm.wf = true) :
    Encodes (op :: encRm16 d rm) (f rm) :=
  encodes_modrm_only hrow (startsWithModrm_encRm16 d h) fun _ => by simp [Row.read, takeRm_encRm16 d h]

theorem encodes_m {f : Mem → Instr} (hrow : opcodeRow op d.toNat = .m f) {m : Mem} (h : m.wf = true) :
    Encodes (op :: encMem d m) (f m) :=
  encodes_modrm_only hrow (startsWithModrm_encMem d h) fun _ => by simp [Row.read, takeMemOnly_encMem d h]

theorem encodes_m16d {f : BitVec 3 → Rm16 → Instr} (hrow : opcodeRow op d.toNat = .m16d f) {rm : Rm16} (h : rm.wf = true) :
    Encodes (op :: encRm16 d rm) (f d rm) :=
  encodes_modrm_only hrow (startsWithModrm_encRm16 d h) fun _ => by simp [Row.read, takeRm_encRm16 d h]

theorem encodes_m8r {f : Rm8 → Reg8 → Instr} (hrow : ∀ n, opcodeRow op n = .m8r f) {rm : Rm8} (h : rm.wf = true) (r : Reg8) :
    Encodes (op :: encRm8 (codeReg8 r) rm) (f rm r) :=
  encodes_modrm_only (hrow _) (startsWithModrm_encRm8 _ h) fun _ => by simp [Row.read, takeRm_encRm8 _ h]

theorem encodes_m16r {f : Rm16 → Reg16 → Instr} (hrow : ∀ n, opcodeRow op n = .m16r f) {rm : Rm16} (h : rm.wf = true) (r : Reg16) :
    Encodes (op :: encRm16 (codeReg16 r) rm) (f rm r) :=
  encodes_modrm_only (hrow _) (startsWithModrm_encRm16 _ h) fun _ => by simp [Row.read, takeRm_encRm16 _ h]

theorem encodes_m8r_swap {f : Reg8 → Rm8 → Instr} (hrow : ∀ n, opcodeRow op n = .m8r fun rm r => f r rm) (r : Reg8) {rm : Rm8}
    (h : rm.wf = true) : Encodes (op :: encRm8 (codeReg8 r) rm) (f r rm) := encodes_m8r hrow h r

theorem encodes_m16r_swap {f : Reg16 → Rm16 → Instr} (hrow : ∀ n, opcodeRow op n = .m16r fun rm r => f r rm) (r : Reg16) {rm : Rm16}
    (h : rm.wf = true) : Encodes (op :: encRm16 (codeReg16 r) rm) (f r rm) := encodes_m16r hrow h r

theorem encodes_mr {f : Reg16 → Mem → Instr} (hrow : ∀ n, opcodeRow op n = .mr f) (r : Reg16) {m : Mem} (h : m.wf = true) :
    Encodes (op :: encMem (codeReg16 r) m) (f r m) :=
  encodes_modrm_only (hrow _) (startsWithModrm_encMem _ h) fun _ => by simp [Row.read, takeMemOnly_encMem _ h]

theorem encodes_m8i8 {f : Rm8 → Byte → Instr} (hrow : opcodeRow op d.toNat = .m8i8 f) {rm : Rm8} (h : rm.wf = true) (b : Byte) :
    Encodes (op :: (encRm8 d rm ++ [b])) (f rm b) :=
  encodes_modrm hrow (startsWithModrm_encRm8 d h) (by simp) fun _ => by simp [Row.read, takeRm_encRm8 d h]

theorem encodes_m16i8 {f : Rm16 → Byte → Instr} (hrow : opcodeRow op d.toNat = .m16i8 f) {rm : Rm16} (h : rm.wf = true) (b : Byte) :
    Encodes (op :: (encRm16 d rm ++ [b])) (f rm b) :=
  encodes_modrm hrow (startsWithModrm_encRm16 d h) (by simp) fun _ => by simp [Row.read, takeRm_encRm16 d h]

theorem encodes_m16i16 {f : Rm16 → Word → Instr} (hrow : opcodeRow op d.toNat = .m16i16 f) {rm : Rm16} (h : rm.wf = true)
    (v : Word) : Encodes (op :: (encRm16 d rm ++ encWord v)) (f rm v) :=
  encodes_modrm hrow (startsWithModrm_encRm16 d h) (Nat.le_refl _) fun _ => by simp [Row.read, takeRm_encRm16 d h]

theorem encodes_m16ri8 {f : Reg16 → Rm16 → Byte → Instr} (hrow : ∀ n, opcodeRow op n = .m16ri8 f) (r : Reg16) {rm : Rm16}
    (h : rm.wf = true) (b : Byte) : Encodes (op :: (encRm16 (codeReg16 r) rm ++ [b])) (f r rm b) :=
  encodes_modrm (hrow _) (startsWithModrm_encRm16 _ h) (by simp) fun _ => by simp [Row.read, takeRm_encRm16 _ h]

theorem encodes_m16ri16 {f : Reg16 → Rm16 → Word → Instr} (hrow : ∀ n, opcodeRow op n = .m16ri16 f) (r : Reg16) {rm : Rm16}
    (h : rm.wf = true) (v : Word) : Encodes (op :: (encRm16 (codeReg16 r) rm ++ encWord v)) (f r rm v) :=
  encodes_modrm (hrow _) (startsWithModrm_encRm16 _ h) (Nat.le_refl _) fun _ => by simp [Row.read, takeRm_encRm16 _ h]

end Formats

/-- ESC: bits 2:0 of the opcode are its first operand (`45_processor_control.md` R485). -/
theorem opcodeRow_esc (x : BitVec 3) (n : Nat) : opcodeRow (opReg 0xD8#8 x) n = .m16d (.esc x) := by
  have hx : x = 0 ∨ x = 1 ∨ x = 2 ∨ x = 3 ∨ x = 4 ∨ x = 5 ∨ x = 6 ∨ x = 7 := by revert x; decide
  rcases hx with rfl | rfl | rfl | rfl | rfl | rfl | rfl | rfl <;> rfl

/-- The encoder writes complete encodings: one group of cases for each format, and the rows that hold a register in the opcode byte
or a segment register in `modrm[5:3]` apart. -/
theorem encode_encodes {i : Instr} (h : i.wf = true) : Encodes (encode i) i := by
  cases i
  case addRm8R8 | orRm8R8 | adcRm8R8 | sbbRm8R8 | andRm8R8 | subRm8R8 | xorRm8R8 | cmpRm8R8 | testRm8R8 | xchgRm8R8 | movRm8R8
    => exact encodes_m8r (fun _ => rfl) h _
  case addR8Rm8 | orR8Rm8 | adcR8Rm8 | sbbR8Rm8 | andR8Rm8 | subR8Rm8 | xorR8Rm8 | cmpR8Rm8 | movR8Rm8
    => exact encodes_m8r_swap (fun _ => rfl) _ h
  case addRm16R16 | orRm16R16 | adcRm16R16 | sbbRm16R16 | andRm16R16 | subRm16R16 | xorRm16R16 | cmpRm16R16 | testRm16R16
    | xchgRm16R16 | movRm16R16 => exact encodes_m16r (fun _ => rfl) h _
  case addR16Rm16 | orR16Rm16 | adcR16Rm16 | sbbR16Rm16 | andR16Rm16 | subR16Rm16 | xorR16Rm16 | cmpR16Rm16 | movR16Rm16
    => exact encodes_m16r_swap (fun _ => rfl) _ h
  case addAlImm8 | orAlImm8 | adcAlImm8 | sbbAlImm8 | andAlImm8 | subAlImm8 | xorAlImm8 | cmpAlImm8 | pushImm8 | jo | jno | jb
    | jae | je | jne | jbe | ja | js | jns | jp | jnp | jl | jge | jle | jg | testAlImm8 | intImm8 | loopne | loope | loop
    | jcxz | inAlImm8 | inAxImm8 | outImm8Al | outImm8Ax | jmpShort => exact encodes_i8 (fun _ => rfl) _
  case addAxImm16 | orAxImm16 | adcAxImm16 | sbbAxImm16 | andAxImm16 | subAxImm16 | xorAxImm16 | cmpAxImm16 | pushImm16
    | movAlMoffs8 | movAxMoffs16 | movMoffs8Al | movMoffs16Ax | testAxImm16 | retNearImm16 | retFarImm16 | callNear | jmpNear
    => exact encodes_i16 (fun _ => rfl) _
  case addRm8Imm8 | orRm8Imm8 | adcRm8Imm8 | sbbRm8Imm8 | andRm8Imm8 | subRm8Imm8 | xorRm8Imm8 | cmpRm8Imm8 | rolRm8Imm8
    | rorRm8Imm8 | rclRm8Imm8 | rcrRm8Imm8 | shlRm8Imm8 | shrRm8Imm8 | sarRm8Imm8 | movRm8Imm8 | testRm8Imm8
    => exact encodes_m8i8 rfl h _
  case addRm16Imm16 | orRm16Imm16 | adcRm16Imm16 | sbbRm16Imm16 | andRm16Imm16 | subRm16Imm16 | xorRm16Imm16 | cmpRm16Imm16
    | movRm16Imm16 | testRm16Imm16 => exact encodes_m16i16 rfl h _
  case addRm16Imm8 | adcRm16Imm8 | sbbRm16Imm8 | subRm16Imm8 | cmpRm16Imm8 | rolRm16Imm8 | rorRm16Imm8 | rclRm16Imm8
    | rcrRm16Imm8 | shlRm16Imm8 | shrRm16Imm8 | sarRm16Imm8 => exact encodes_m16i8 rfl h _
  case bound | lea | les | lds => exact encodes_mr (fun _ => rfl) _ h
  case imulR16Rm16Imm16 => exact encodes_m16ri16 (fun _ => rfl) _ h _
  case imulR16Rm16Imm8 => exact encodes_m16ri8 (fun _ => rfl) _ h _
  case popRm16 | rolRm16One | rolRm16Cl | rorRm16One | rorRm16Cl | rclRm16One | rclRm16Cl | rcrRm16One | rcrRm16Cl | shlRm16One
    | shlRm16Cl | shrRm16One | shrRm16Cl | sarRm16One | sarRm16Cl | notRm16 | negRm16 | mulRm16 | imulRm16 | divRm16 | idivRm16
    | incRm16 | decRm16 | callRm16 | jmpRm16 | pushRm16 => exact encodes_m16 rfl h
  case callFar | jmpFar => exact encodes_p32 (fun _ => rfl) _ _
  case rolRm8One | rolRm8Cl | rorRm8One | rorRm8Cl | rclRm8One | rclRm8Cl | rcrRm8One | rcrRm8Cl | shlRm8One | shlRm8Cl
    | shrRm8One | shrRm8Cl | sarRm8One | sarRm8Cl | notRm8 | negRm8 | mulRm8 | imulRm8 | divRm8 | idivRm8 | incRm8 | decRm8
    => exact encodes_m8 rfl h
  case enter => exact encodes_i16i8 (fun _ => rfl) _ _
  case callMem32 | jmpMem32 => exact encodes_m rfl h
  case pushEs | pushCs | pushSs | pushDs | popEs | popSs | popDs | segEs | segCs | segSs | segDs | daa | das | aaa | aas
    | pusha | popa | insb | insw | outsb | outsw | nop | cbw | cwd | wait | pushf | popf | sahf | lahf | movsb | movsw | cmpsb
    | cmpsw | stosb | stosw | lodsb | lodsw | scasb | scasw | retNear | leave | retFar | int3 | into | iret | xlat | inAlDx
    | inAxDx | outDxAl | outDxAx | lock | repne | rep | hlt | cmc | clc | stc | cli | sti | cld | std
    => exact encodes_o fun _ => rfl
  case aam | aad => exact encodes_second fun _ => rfl
  case incR16 r | decR16 r | pushR16 r | popR16 r => cases r <;> exact encodes_o fun _ => rfl
  case movR8Imm8 r b => cases r <;> exact encodes_i8 (fun _ => rfl) b
  case movR16Imm16 r v => cases r <;> exact encodes_i16 (fun _ => rfl) v
  case xchgAxR16 r =>
    cases r with
    | ax => exact absurd h Bool.false_ne_true
    | cx | dx | bx | sp | bp | si | di => exact encodes_o fun _ => rfl
  case movRm16Sreg rm sr => cases sr <;> exact encodes_m16 (f := (.movRm16Sreg · _)) rfl h
  case movSregRm16 sr rm =>
    obtain ⟨hrm, hsr⟩ := Bool.and_eq_true_iff.mp h
    cases sr with
    | cs => exact absurd hsr Bool.false_ne_true
    | es | ss | ds => exact encodes_m16 rfl hrm
  case esc x y rm => exact encodes_m16d (opcodeRow_esc x _) h

/-! ### Fetch and step -/

/-- Nothing stale: every code byte is the one memory holds (`20_memory.md` R100). -/
theorem fetchByte_fresh {s : State} (h : s.stale = []) (a : Nat) : fetchByte a s = (s.loadByte a, s) := by
  simp [fetchByte, h]

theorem fetchBytes_fresh {s : State} (h : s.stale = []) (n : Nat) (off : Word) :
    fetchBytes n off s = ((List.range n).map fun k => s.loadByte (phys s.sregs.cs (off + BitVec.ofNat 16 k)), s) := by
  induction n generalizing off with
  | zero => rfl
  | succ n ih =>
    have hoff (k : Nat) : off + 1#16 + BitVec.ofNat 16 k = off + BitVec.ofNat 16 (k + 1) := by
      rw [BitVec.ofNat_add, BitVec.add_assoc, BitVec.add_comm 1#16]
    simp [fetchBytes, fetchByte_fresh h, ih, hoff, List.range_succ_eq_map]

/-- The fetch begins with any bytes, no more than it reads, that stand at CS:IP. -/
theorem fetch_of_bytes {s : State} {bs : List Byte} (hstale : s.stale = []) (hlen : bs.length ≤ maxLength)
    (hbytes : ∀ k (h : k < bs.length), s.loadByte (phys s.sregs.cs (s.ip + BitVec.ofNat 16 k)) = bs[k]) :
    ∃ rest, fetch s = (bs ++ rest, s) ∧ maxLength - rest.length = bs.length := by
  rw [fetch, fetchBytes_fresh hstale]
  generalize hcode : (List.range maxLength).map _ = code
  have hcodelen : code.length = maxLength := by simp [← hcode]
  have htake : code.take bs.length = bs := by
    refine List.ext_getElem (by simp [hcodelen, hlen]) fun k _ hk => ?_
    simp [← hcode, hbytes k hk]
  have hsplit : bs ++ code.drop bs.length = code := by
    calc bs ++ code.drop bs.length = code.take bs.length ++ code.drop bs.length := by rw [htake]
      _ = code := List.take_append_drop _ _
  exact ⟨code.drop bs.length, by rw [hsplit], by simp [hcodelen]; omega⟩

/-- Where no interrupt is due, the machine runs and no repeated string is in progress, the step is that of the decoded
instruction. -/
theorem step_of_decode {s : State} {i : Instr} {rest : List Byte} (hdue : dueInterrupt s = none) (hhalt : s.halted = false)
    (hrep : s.repeating = none) (hdecode : decode (fetch s).1 = .instr i rest) (huse : repMisused i s = false) :
    step s = finish s.flags.tf (exec i (begin (maxLength - rest.length) (fetch s).2)) := by
  simp [step, hdue, hhalt, hrep, hdecode, huse]

/-- With no input scheduled and no trap due, the end of a step drops the prefixes of a complete instruction and does nothing else. -/
theorem finish_quiet {t : State} (h : t.env = []) : finish false (.next t) = .next (retire t) := by
  simp [finish, finishState, h, stepTrap, stepTrapDue]

/-- Settles O6: the fetch reads the instruction's bytes, which decode to it whatever follows them. -/
theorem stepRunsInstruction : Obligations.StepRunsInstruction := by
  intro s i hwf hdue hhalt hrep hstale huse hbytes
  obtain ⟨hlen, hdecode⟩ := encode_encodes hwf
  obtain ⟨rest, hfetch, hrest⟩ := fetch_of_bytes hstale hlen hbytes
  have hstep : step s = finish s.flags.tf (exec i (begin (encode i).length s)) := by
    rw [step_of_decode hdue hhalt hrep (by rw [hfetch]; exact hdecode rest) huse, hrest, hfetch]
  refine ⟨hstep, fun htf t ht henv => ?_⟩
  rw [hstep, htf, ht, finish_quiet henv]

end Sys2Proof.Proofs
end

section
/-! SUPPORT. Proofs of the statements about memory (`20_memory.md`): stores by what stands at an address, words, the prefetch
queue, and the cycles of the bus. -/

namespace Sys2Proof.Proofs

open Sys2Proof Sys2Proof.Machine Sys2Proof.Safety Sys2Proof.Laws

/-! ### What a store does, by what stands at the address (`92` D5, D10) -/

theorem region_eq (s : State) (a : Nat) :
    s.region a = if s.pcbInMemory = true ∧ s.pcbBase ≤ a ∧ a < s.pcbBase + 256 then some .device else regionAt a s.memMap := by
  simp [State.region, State.isPcb]

theorem storeByte_dropped {s : State} {a : Nat} (v : Byte) (h : s.region a = some .rom ∨ s.region a = some .absent) :
    s.storeByte a v = s := by
  rcases h with h | h <;> simp [State.storeByte, h]

theorem storeByte_device {s : State} {a : Nat} (v : Byte) (h : s.region a = some .device) :
    s.storeByte a v = { s with devWrites := s.devWrites ++ [(a, v)] } := by simp [State.storeByte, h]

theorem storeByte_ram {s : State} {a : Nat} (v : Byte) (h : s.region a = none) :
    s.storeByte a v = { s with
      mem := Memory.write s.mem a v
      stale := if s.inQueueWindow a then (a, Memory.read s.mem a) :: s.stale else s.stale } := by simp [State.storeByte, h]

/-- What is no RAM leaves the queue's old bytes alone. -/
theorem storeByte_stale {s : State} {a : Nat} (v : Byte) (h : s.region a ≠ none) : (s.storeByte a v).stale = s.stale := by
  cases hr : s.region a with
  | none => exact absurd hr h
  | some kind =>
    cases kind with
    | rom => rw [storeByte_dropped v (.inl hr)]
    | absent => rw [storeByte_dropped v (.inr hr)]
    | device => rw [storeByte_device v hr]

/-! ### MOV to and from memory, and PUSH, as accesses of the bus -/

/-- A byte written to memory is one store and one cycle. -/
theorem setRm8_mem (m : Mem) (v : Byte) (s : State) :
    setRm8 (.mem m) v s = { s.storeByte (phys (memSeg m s) (ea m s)) v with
      busLog := s.busLog ++ [.memWrite false (phys (memSeg m s) (ea m s)) (zeroExt v)] } := by
  simp [setRm8, writeByte, State.logEvents]

theorem setRm16_mem {m : Mem} {s : State} (v : Word) (h : ea m s ≠ 0xFFFF#16) :
    setRm16 (.mem m) v s = .ok (wroteWord (memSeg m s) (ea m s) v s) := writeWord_ok v s h

theorem exec_movR8Rm8 (r : Reg8) (rm : Rm8) (s : State) :
    exec (.movR8Rm8 r rm) s = .next ((s.logEvents (readCycles8 rm s)).setReg8 r (opByte rm s)) := by
  show outcome (mov8 (.reg r) rm s) = _
  rw [mov8, getRm8_eq]; rfl

theorem exec_movRm8R8 (rm : Rm8) (r : Reg8) (s : State) : exec (.movRm8R8 rm r) s = .next (setRm8 rm (s.reg8 r) s) := rfl

theorem exec_movRm8Imm8 (rm : Rm8) (v : Byte) (s : State) : exec (.movRm8Imm8 rm v) s = .next (setRm8 rm v s) := rfl

theorem exec_movR16Rm16 (r : Reg16) {rm : Rm16} {s : State} (h : Accessible rm s) :
    exec (.movR16Rm16 r rm) s = .next ((s.logEvents (readCycles16 rm s)).setReg16 r (opWord rm s)) := by
  show outcome (mov16 (.reg r) rm s) = _
  rw [mov16, getRm16_ok h]; rfl

theorem exec_movRm16R16 (rm : Rm16) (r : Reg16) (s : State) :
    exec (.movRm16R16 rm r) s = outcome (setRm16 rm (s.reg16 r) s) := rfl

theorem exec_movRm16Imm16 (rm : Rm16) (v : Word) (s : State) : exec (.movRm16Imm16 rm v) s = outcome (setRm16 rm v s) := rfl

theorem exec_pushImm16 (v : Word) (s : State) : exec (.pushImm16 v) s = outcome (push v s) := rfl

/-- A word written, in a state `u` that has the log of `s`, is two stores, with memory cycles in the log. -/
theorem completes_wroteWord {r : Result} {s u : State} {seg off v : Word} (hlog : u.busLog = s.busLog)
    (hr : r = .next (wroteWord seg off v u)) : Completes r s (u.storeWord (phys seg off) v) :=
  ⟨_, dataCycles_writeWord (splits (phys seg off)) (phys seg off) (nextAddr (phys seg off)) v, by
    rw [hr, wroteWord, State.logEvents, storeWord_busLog, hlog]⟩

/-- Settles O15. -/
theorem memoryMapWrites : Obligations.MemoryMapWrites := by
  intro s a v
  refine ⟨region_eq s a, storeByte_dropped v, storeByte_device v, fun h => loadByte_present h.symm, ?movByte, ?movWord, ?push⟩
  case movByte =>
    rintro m r i rfl (⟨rfl, rfl⟩ | rfl)
    · rw [exec_movRm8R8, setRm8_mem]; rfl
    · rw [exec_movRm8Imm8, setRm8_mem]; rfl
  case movWord =>
    rintro m r i w hend rfl (⟨rfl, rfl⟩ | rfl)
    · exact completes_wroteWord rfl (by rw [exec_movRm16R16, setRm16_mem _ hend, outcome_ok])
    · exact completes_wroteWord rfl (by rw [exec_movRm16Imm16, setRm16_mem _ hend, outcome_ok])
  case push =>
    rintro w u hend rfl rfl
    exact completes_wroteWord (u := s.setReg16 .sp (s.regs.sp - 2)) rfl (by rw [exec_pushImm16, push_eq w hend]; rfl)

/-! ### Words (`20_memory.md` R80) -/

/-- Settles O13: of the two stores of a word neither touches the other's byte. -/
theorem wordsAreLittleEndian : Obligations.WordsAreLittleEndian := by
  intro s a v _ hram
  have hlow : s.region a = none := hram a (by simp)
  have hhigh : s.region (nextAddr a) = none := hram (nextAddr a) (by simp)
  obtain ⟨readLow, readHigh⟩ := read_storeWord_ram v hlow hhigh
  have loadLow : (s.storeWord a v).loadByte a = lowByte v := by rw [loadByte_ram (by simpa using hlow), readLow]
  have loadHigh : (s.storeWord a v).loadByte (nextAddr a) = highByte v := by rw [loadByte_ram (by simpa using hhigh), readHigh]
  exact ⟨loadLow, loadHigh, by rw [State.loadWord, loadLow, loadHigh, joinBytes_halves], memSame_storeWord s a v⟩

/-! ### The prefetch queue (`20_memory.md` R100, log 19) -/

theorem mayBeQueued_iff (k : Nat) : mayBeQueued k = true ↔ k < queueBytes := by
  unfold mayBeQueued queueBytes
  cases Config.bus16 <;> simp; omega

theorem inQueueWindow_iff (s : State) (a : Nat) :
    s.inQueueWindow a = true ↔ ∃ k, k < queueBytes ∧ a = phys s.sregs.cs (s.ip + BitVec.ofNat 16 k) := by
  have hsix : queueBytes ≤ 6 := by unfold queueBytes; split <;> decide
  simp only [State.inQueueWindow, List.any_eq_true, List.mem_range, Bool.and_eq_true, beq_iff_eq, mayBeQueued_iff]
  constructor
  · rintro ⟨k, -, ha, hk⟩; exact ⟨k, hk, ha.symm⟩
  · rintro ⟨k, hk, ha⟩; exact ⟨k, Nat.lt_of_lt_of_le hk hsix, ha.symm, hk⟩

/-- A byte that no store replaced is fetched from memory. -/
theorem fetchByte_not_stale {s : State} {a : Nat} (h : ∀ c ∈ s.stale, c.1 ≠ a) : fetchByte a s = (s.loadByte a, s) := by
  have hnone : s.stale.filter (fun c => c.1 == a) = [] := by simpa [List.filter_eq_nil_iff] using h
  simp only [fetchByte, hnone]

/-- Of the replaced bytes a fetch can answer those of its own address alone. -/
theorem fetchByte_cases (a : Nat) (s : State) : (fetchByte a s).1 = s.loadByte a ∨ (a, (fetchByte a s).1) ∈ s.stale := by
  unfold fetchByte
  split
  case h_1 => exact .inl rfl
  case h_2 c cs replaced =>
    split
    case h_1 old chosen =>
      have hmem : old ∈ s.stale.filter (fun c => c.1 == a) := replaced ▸ List.mem_of_getElem? chosen
      obtain ⟨hstale, haddr⟩ := List.mem_filter.mp hmem
      exact .inr (by rw [← beq_iff_eq.mp haddr]; exact hstale)
    case h_2 => exact .inl rfl

/-- Settles O7. -/
theorem fetchSeesMemoryOrStale : Obligations.FetchSeesMemoryOrStale := fun s a =>
  ⟨fetchByte_not_stale, fetchByte_cases a s, fun v h => by simp [storeByte_ram v h], fun v => storeByte_stale v,
    inQueueWindow_iff s a, fun _ => rfl⟩

/-! ### Cycles of the bus (`20_memory.md` R82, R105, R107) -/

theorem zeroExt_highByte (v : Word) : zeroExt (highByte v) = v >>> 8 := by
  unfold zeroExt highByte; bv_omega

@[simp] theorem lowByte_loadWord (s : State) (a : Nat) : lowByte (s.loadWord a) = s.loadByte a := lowByte_joinBytes _ _

@[simp] theorem highByte_loadWord (s : State) (a : Nat) : highByte (s.loadWord a) = s.loadByte (nextAddr a) :=
  highByte_joinBytes _ _

/-- From `s` to `t` the log grows by memory writes alone. -/
def OnlyWriteCycles (s t : State) : Prop := ∃ es, (∀ e ∈ es, e.cycleType = .memoryWrite) ∧ t.busLog = s.busLog ++ es

theorem onlyWriteCycles_trans {s t u : State} (h : OnlyWriteCycles s t) (h' : OnlyWriteCycles t u) : OnlyWriteCycles s u := by
  obtain ⟨es, hes, h⟩ := h
  obtain ⟨fs, hfs, h'⟩ := h'
  refine ⟨es ++ fs, fun e he => ?_, by rw [h', h, List.append_assoc]⟩
  rcases List.mem_append.mp he with he | he
  · exact hes e he
  · exact hfs e he

theorem push_onlyWriteCycles {s t : State} {v : Word} (h : push v s = .ok t) : OnlyWriteCycles s t := by
  obtain ⟨-, rfl⟩ := push_eq_ok.mp h
  refine ⟨_, fun e he => ?_, by rw [afterPush, wroteWord, logEvents_busLog, storeWord_busLog, setReg16_busLog]⟩
  unfold wordCycles at he
  split at he <;> · simp at he; rcases he with rfl | rfl <;> rfl

/-- The vector's two words are read first; then come the three pushes. -/
theorem enter_cycles {n : Byte} {s t : State} (h : enter n s = .ok t) : ∃ es, (∀ e ∈ es, e.cycleType = .memoryWrite) ∧
    t.busLog = s.busLog ++ s.wordReadCycles (4 * n.toNat) ++ s.wordReadCycles (4 * n.toNat + 2) ++ es := by
  obtain ⟨-, a, b, c, psw, cs, ip, rfl⟩ := enter_eq_ok.mp h
  have pushedCs := push_onlyWriteCycles cs
  obtain ⟨es, hes, hlog⟩ :=
    onlyWriteCycles_trans (push_onlyWriteCycles psw) (onlyWriteCycles_trans (t := b) pushedCs (push_onlyWriteCycles ip))
  exact ⟨es, hes, by simpa using hlog⟩

/-- Settles O16. -/
theorem busCycles : Obligations.BusCycles := by
  refine ⟨rfl, ?_, fun n s t h => enter_cycles h⟩
  rintro s m a rfl
  have accessible (h : ea m s ≠ 0xFFFF#16) : Accessible (.mem m) s := fun _ hm => RegMem.mem.inj hm ▸ h
  refine ⟨fun r => ⟨_, exec_movR8Rm8 r _ s, ?_⟩, fun r => ⟨_, exec_movRm8R8 _ r s, ?_⟩,
    fun h r => ⟨_, exec_movR16Rm16 r (accessible h), fun hbus heven => ?_, fun hsplit => ?_⟩,
    fun h r => ⟨_, by rw [exec_movRm16R16, setRm16_mem _ h, outcome_ok], fun hbus heven => ?_, fun hsplit => ?_⟩⟩
  · simp [readCycles8, opByte]; rfl
  · rw [setRm8_mem]; rfl
  · simp [readCycles16, State.wordReadCycles, wordCycles_even _ _ _ _ hbus heven]
  · simp [readCycles16, State.wordReadCycles, wordCycles_split _ _ _ _ hsplit]; exact ⟨rfl, rfl⟩
  · simp [wroteWord, wordCycles_even _ _ _ _ hbus heven]
  · simp [wroteWord, wordCycles_split _ _ _ _ hsplit, zeroExt_highByte]; rfl

end Sys2Proof.Proofs
end

section
/-! SUPPORT. Proof that no word is accessed past the end of a segment (`20_memory.md` R83). The lemmas say of each operation how
many words must stand below offset 0FFFFH for it to answer, and that nothing else stops it; a form stops when one does not. -/

namespace Sys2Proof.Proofs

open Sys2Proof Sys2Proof.Machine Sys2Proof.Safety Sys2Proof.Laws

/-! ### Computations that stop at the end of a segment, and for no other reason -/

/-- The computation stops because a word would cross offset 0FFFFH. -/
def Ends {α : Type} (x : Except Stop α) : Prop := x = .error (.fault .wordPastSegmentEnd)

/-- The computation answers what satisfies `P`, or stops because a word would cross offset 0FFFFH. -/
def AnswersOrEnds {α : Type} (x : Except Stop α) (P : α → Prop) : Prop := Ends x ∨ ∃ a, x = .ok a ∧ P a

theorem answersOrEnds_ok {α : Type} {a : α} {P : α → Prop} (h : P a) : AnswersOrEnds (.ok a) P := .inr ⟨a, rfl, h⟩

theorem ends_bind {α β : Type} {x : Except Stop α} (h : Ends x) (f : α → Except Stop β) : Ends (x >>= f) := by
  rw [Ends, h, error_bind]

theorem answersOrEnds_bind {α β : Type} {x : Except Stop α} {f : α → Except Stop β} {P : α → Prop} {Q : β → Prop}
    (hx : AnswersOrEnds x P) (hf : ∀ a, P a → AnswersOrEnds (f a) Q) : AnswersOrEnds (x >>= f) Q := by
  rcases hx with hx | ⟨a, rfl, ha⟩
  · exact .inl (ends_bind hx f)
  · exact hf a ha

theorem answersOrEnds_mono {α : Type} {x : Except Stop α} {P Q : α → Prop} (h : AnswersOrEnds x P) (hPQ : ∀ a, P a → Q a) :
    AnswersOrEnds x Q := h.imp_right fun ⟨a, hx, ha⟩ => ⟨a, hx, hPQ a ha⟩

/-- What cannot be answered is a stop. -/
theorem ends_of_answersOrEnds {α : Type} {x : Except Stop α} {P : α → Prop} (h : AnswersOrEnds x P) (hP : ∀ a, ¬P a) : Ends x :=
  h.resolve_right fun ⟨a, _, ha⟩ => hP a ha

/-- The first part may stop, and the second does. -/
theorem ends_bind_of_answersOrEnds {α β : Type} {x : Except Stop α} {f : α → Except Stop β} {P : α → Prop}
    (hx : AnswersOrEnds x P) (hf : ∀ a, P a → Ends (f a)) : Ends (x >>= f) :=
  ends_of_answersOrEnds (P := fun _ => False) (answersOrEnds_bind hx fun a ha => .inl (hf a ha)) fun _ => id

theorem outcome_ends {x : Except Stop State} (h : Ends x) : outcome x = .fault .wordPastSegmentEnd := by rw [h, outcome_fault]

theorem stopAtSegmentEnd_nil (s : State) : StopAtSegmentEnd s [] := fun _ h => absurd h List.not_mem_nil

theorem stopAtSegmentEnd_cons {s : State} {i : Instr} {is : List Instr} :
    StopAtSegmentEnd s (i :: is) ↔ exec i s = .fault .wordPastSegmentEnd ∧ StopAtSegmentEnd s is := List.forall_mem_cons

theorem stopAtSegmentEnd_singleton {s : State} {i : Instr} :
    StopAtSegmentEnd s [i] ↔ exec i s = .fault .wordPastSegmentEnd := List.forall_mem_singleton

/-! ### Rows of words, down and up from an offset -/

/-- None of the `n` words below the offset stands at 0FFFFH: `n` pushes from there have a meaning. -/
def WordsBelow (n : Nat) (off : Word) : Prop := ∀ k < n, off - BitVec.ofNat 16 (2 * k + 2) ≠ 0xFFFF#16

/-- None of the `n` words from the offset on stands at 0FFFFH: `n` pops from there have a meaning. -/
def WordsFrom (n : Nat) (off : Word) : Prop := ∀ k < n, off + BitVec.ofNat 16 (2 * k) ≠ 0xFFFF#16

theorem wordsBelow_zero (off : Word) : WordsBelow 0 off := fun _ h => absurd h (Nat.not_lt_zero _)

theorem wordsFrom_zero (off : Word) : WordsFrom 0 off := fun _ h => absurd h (Nat.not_lt_zero _)

theorem sub_ofNat_add (off : Word) (m n : Nat) : off - BitVec.ofNat 16 (m + n) = off - BitVec.ofNat 16 m - BitVec.ofNat 16 n := by
  rw [BitVec.ofNat_add, BitVec.sub_sub]

theorem add_ofNat_add (off : Word) (m n : Nat) : off + BitVec.ofNat 16 (m + n) = off + BitVec.ofNat 16 m + BitVec.ofNat 16 n := by
  rw [BitVec.ofNat_add, BitVec.add_assoc]

theorem wordsBelow_succ {n : Nat} {off : Word} (h : off - 2 ≠ 0xFFFF#16) (hn : WordsBelow n (off - 2)) : WordsBelow (n + 1) off := by
  intro k hk
  cases k with
  | zero => exact h
  | succ k =>
    rw [show 2 * (k + 1) + 2 = 2 + (2 * k + 2) by omega, sub_ofNat_add]
    exact hn k (by omega)

theorem wordsFrom_succ {n : Nat} {off : Word} (h : off ≠ 0xFFFF#16) (hn : WordsFrom n (off + 2)) : WordsFrom (n + 1) off := by
  intro k hk
  cases k with
  | zero => simpa using h
  | succ k =>
    rw [show 2 * (k + 1) = 2 + 2 * k by omega, add_ofNat_add]
    exact hn k (by omega)

/-- One word more at the low end. -/
theorem wordsBelow_snoc {n : Nat} {off : Word} (hn : WordsBelow n off) (h : off - BitVec.ofNat 16 (2 * n) - 2 ≠ 0xFFFF#16) :
    WordsBelow (n + 1) off := by
  intro k hk
  rcases Nat.lt_succ_iff_lt_or_eq.mp hk with hk | rfl
  · exact hn k hk
  · rwa [sub_ofNat_add]

/-! ### Accesses of words -/

theorem readWord_answersOrEnds (seg off : Word) (s : State) : AnswersOrEnds (readWord seg off s) fun p =>
    off ≠ 0xFFFF#16 ∧ p = (s.loadWord (phys seg off), s.logEvents (s.wordReadCycles (phys seg off))) := by
  by_cases h : off = 0xFFFF#16
  · exact .inl (h ▸ readWord_end seg s)
  · exact .inr ⟨_, readWord_ok s h, h, rfl⟩

theorem readPointer_answersOrEnds (seg off : Word) (s : State) : AnswersOrEnds (readPointer seg off s) fun p =>
    p.2.2.regs = s.regs := by
  by_cases h : 0xFFFC#16 < off
  · exact .inl (readPointer_end s h)
  · exact .inr ⟨_, readPointer_ok s (by simpa using h), rfl⟩

theorem getRm16_answersOrEnds (rm : Rm16) (s : State) : AnswersOrEnds (getRm16 rm s) fun p => p.2.regs = s.regs := by
  cases rm with
  | reg r => exact answersOrEnds_ok rfl
  | mem m => exact answersOrEnds_mono (readWord_answersOrEnds _ _ s) fun p hp => by rw [hp.2]; rfl

theorem setRm16_ends {m : Mem} {s : State} (h : ea m s = 0xFFFF#16) (v : Word) : Ends (setRm16 (.mem m) v s) := by
  rw [Ends, setRm16, h, writeWord_end]

theorem push_answersOrEnds (v : Word) (s : State) : AnswersOrEnds (push v s) fun t =>
    s.regs.sp - 2 ≠ 0xFFFF#16 ∧ t.regs = { s.regs with sp := s.regs.sp - 2 } := by
  by_cases h : s.regs.sp - 2 = 0xFFFF#16
  · exact .inl (push_end v (by bv_omega))
  · exact .inr ⟨_, push_eq v h, h, by rw [push_rest (push_eq v h)]⟩

theorem pop_answersOrEnds (s : State) : AnswersOrEnds (pop s) fun p =>
    s.regs.sp ≠ 0xFFFF#16 ∧ p.2.regs = { s.regs with sp := s.regs.sp + 2 } := by
  by_cases h : s.regs.sp = 0xFFFF#16
  · exact .inl (pop_end h)
  · exact .inr ⟨_, pop_ok h, h, rfl⟩

/-! ### Rows of pushes and pops -/

/-- A push, and then what needs `n` words below the SP it leaves. -/
theorem push_bind_wordsBelow {α : Type} {n : Nat} {v : Word} {s : State} {f : State → Except Stop α}
    (h : ∀ t, t.regs = { s.regs with sp := s.regs.sp - 2 } → AnswersOrEnds (f t) fun _ => WordsBelow n t.regs.sp) :
    AnswersOrEnds (push v s >>= f) fun _ => WordsBelow (n + 1) s.regs.sp :=
  answersOrEnds_bind (push_answersOrEnds v s) fun t ⟨hend, ht⟩ => answersOrEnds_mono (h t ht) fun _ hn =>
    wordsBelow_succ hend (by rwa [ht] at hn)

/-- A pop, and then what needs `n` words from the SP it leaves. -/
theorem pop_bind_wordsFrom {α : Type} {n : Nat} {s : State} {f : Word × State → Except Stop α}
    (h : ∀ v t, t.regs.sp = s.regs.sp + 2 → AnswersOrEnds (f (v, t)) fun _ => WordsFrom n t.regs.sp) :
    AnswersOrEnds (pop s >>= f) fun _ => WordsFrom (n + 1) s.regs.sp :=
  answersOrEnds_bind (pop_answersOrEnds s) fun ⟨v, t⟩ ⟨hend, ht⟩ =>
    have hsp : t.regs.sp = s.regs.sp + 2 := by rw [ht]
    answersOrEnds_mono (h v t hsp) fun _ hn => wordsFrom_succ hend (by rwa [hsp] at hn)

theorem pushList_wordsBelow (vs : List Word) (s : State) :
    AnswersOrEnds (pushList vs s) fun _ => WordsBelow vs.length s.regs.sp := by
  induction vs generalizing s with
  | nil => exact answersOrEnds_ok (wordsBelow_zero _)
  | cons v vs ih => exact push_bind_wordsBelow fun t _ => ih t

theorem callFarTo_wordsBelow (seg off : Word) (s : State) : AnswersOrEnds (callFarTo seg off s) fun _ => WordsBelow 2 s.regs.sp :=
  push_bind_wordsBelow fun _ _ => push_bind_wordsBelow fun _ _ => answersOrEnds_ok (wordsBelow_zero _)

theorem enter_wordsBelow {n : Byte} {s : State} (h : frameOverlaps n s = false) :
    AnswersOrEnds (enter n s) fun _ => WordsBelow 3 s.regs.sp := by
  unfold enter
  rw [h]
  exact push_bind_wordsBelow (s := State.nextFree _) fun _ _ => push_bind_wordsBelow (s := State.setFlags _ _) fun _ _ =>
    push_bind_wordsBelow fun _ _ => answersOrEnds_ok (wordsBelow_zero _)

theorem popAll_wordsFrom (s : State) : AnswersOrEnds (popAll s) fun _ => WordsFrom 8 s.regs.sp :=
  pop_bind_wordsFrom fun _ _ _ => pop_bind_wordsFrom (s := State.setReg16 _ .di _) fun _ _ _ =>
    pop_bind_wordsFrom (s := State.setReg16 _ .si _) fun _ _ _ => pop_bind_wordsFrom (s := State.setReg16 _ .bp _) fun _ _ _ =>
      pop_bind_wordsFrom fun _ _ _ => pop_bind_wordsFrom (s := State.setReg16 _ .bx _) fun _ _ _ =>
        pop_bind_wordsFrom (s := State.setReg16 _ .dx _) fun _ _ _ => pop_bind_wordsFrom (s := State.setReg16 _ .cx _) fun _ _ _ =>
          answersOrEnds_ok (wordsFrom_zero _)

theorem retFarTo_wordsFrom (v : Word) (s : State) : AnswersOrEnds (retFarTo v s) fun _ => WordsFrom 2 s.regs.sp :=
  pop_bind_wordsFrom fun _ _ _ => pop_bind_wordsFrom fun _ _ _ => answersOrEnds_ok (wordsFrom_zero _)

theorem returnFromInterrupt_wordsFrom (s : State) : AnswersOrEnds (returnFromInterrupt s) fun _ => WordsFrom 3 s.regs.sp :=
  pop_bind_wordsFrom fun _ _ _ => pop_bind_wordsFrom fun _ _ _ => pop_bind_wordsFrom fun _ _ _ =>
    answersOrEnds_ok (wordsFrom_zero _)

/-! ### ENTER: a word is pushed for each level and for BP, and one read below BP for each level but the first -/

theorem copyFrames_wordsBelow (n : Nat) (s : State) : AnswersOrEnds (copyFrames n s) fun t =>
    t.regs.sp = s.regs.sp - BitVec.ofNat 16 (2 * n) ∧ WordsBelow n s.regs.sp ∧ WordsBelow n s.regs.bp := by
  induction n generalizing s with
  | zero => exact answersOrEnds_ok ⟨by simp, wordsBelow_zero _, wordsBelow_zero _⟩
  | succ n ih =>
    refine answersOrEnds_bind (readWord_answersOrEnds _ _ (s.setReg16 .bp (s.regs.bp - 2))) ?_
    rintro _ ⟨hread, rfl⟩
    refine answersOrEnds_bind (push_answersOrEnds _ _) ?_
    rintro t ⟨hpush, ht⟩
    refine answersOrEnds_mono (ih t) ?_
    rintro u ⟨hu, hsp, hbp⟩
    rw [ht] at hu hsp hbp
    refine ⟨?_, wordsBelow_succ hpush hsp, wordsBelow_succ hread hbp⟩
    rw [hu, show 2 * (n + 1) = 2 + 2 * n by omega, sub_ofNat_add]; rfl

theorem pushDisplay_wordsBelow (level : Nat) (frame : Word) (s : State) : AnswersOrEnds (pushDisplay level frame s) fun _ =>
    WordsBelow level s.regs.sp ∧ WordsBelow (level - 1) s.regs.bp := by
  cases level with
  | zero => exact answersOrEnds_ok ⟨wordsBelow_zero _, wordsBelow_zero _⟩
  | succ n =>
    refine answersOrEnds_bind (copyFrames_wordsBelow n s) ?_
    rintro t ⟨ht, hsp, hbp⟩
    refine answersOrEnds_mono (push_answersOrEnds frame t) ?_
    rintro u ⟨hpush, -⟩
    exact ⟨wordsBelow_snoc hsp (ht ▸ hpush), hbp⟩

theorem enterFrame_wordsBelow (v : Word) (l : Byte) (s : State) : AnswersOrEnds (enterFrame v l s) fun _ =>
    WordsBelow (l.toNat % 32 + 1) s.regs.sp ∧ WordsBelow (l.toNat % 32 - 1) s.regs.bp := by
  refine answersOrEnds_bind (push_answersOrEnds _ s) ?_
  rintro t ⟨hpush, ht⟩
  refine answersOrEnds_bind (pushDisplay_wordsBelow _ _ t) ?_
  rintro u ⟨hsp, hbp⟩
  rw [ht] at hsp hbp
  exact answersOrEnds_ok ⟨wordsBelow_succ hpush hsp, hbp⟩

end Sys2Proof.Proofs
end

section
/-! SUPPORT. Proof that every form stops on a word past the end of a segment (`20_memory.md` R83). -/

namespace Sys2Proof.Proofs

open Sys2Proof Sys2Proof.Machine Sys2Proof.Safety Sys2Proof.Laws

/-! ### Word operands in memory -/

/-- An operand is read before anything else is done with it. -/
theorem getRm16_bind_stops {m : Mem} {s : State} (h : ea m s = 0xFFFF#16) (f : Word × State → Except Stop State) :
    outcome (getRm16 (.mem m) s >>= f) = .fault .wordPastSegmentEnd := outcome_ends (ends_bind (getRm16_end h) f)

theorem binop16With_stops {m : Mem} {s : State} (h : ea m s = 0xFFFF#16) (op : AluOp) (b : Word) :
    outcome (binop16With op (.mem m) b s) = .fault .wordPastSegmentEnd := getRm16_bind_stops h _

theorem shift16_stops {m : Mem} {s : State} {count : Byte} (h : ea m s = 0xFFFF#16) (hc : count.toNat % 32 ≠ 0) (op : ShiftOp) :
    outcome (shift16 op (.mem m) count s) = .fault .wordPastSegmentEnd := by
  have hc : effectiveCount count ≠ 0 := hc
  rw [shift16, if_neg hc]
  exact getRm16_bind_stops h _

/-- POP moves SP before it writes its operand, whose address does not depend on SP. -/
theorem popRm_stops {m : Mem} {s : State} (h : ea m s = 0xFFFF#16) :
    outcome (popRm (.mem m) s) = .fault .wordPastSegmentEnd := by
  refine outcome_ends (ends_bind_of_answersOrEnds (pop_answersOrEnds s) ?_)
  rintro ⟨v, t⟩ ⟨-, ht⟩
  have hea : ea m t = ea m { s with regs := { s.regs with sp := s.regs.sp + 2 } } := ea_congr ht m
  refine setRm16_ends (hea.trans (Eq.trans ?_ h)) v
  cases m with
  | direct a => rfl
  | plain b | disp8 b d | disp16 b d => cases b <;> rfl

/-- In the order of the list: `read` are the forms that begin with a read of the operand, `write` those that only write it, `alu`
those that read it after a register or an immediate. -/
theorem wordMemoryForms_stop {m : Mem} {s : State} (h : ea m s = 0xFFFF#16) (r : Reg16) (v : Word) (i : Byte) (sr : SReg) :
    StopAtSegmentEnd s (wordMemoryForms m r v i sr) := by
  have read {f} := getRm16_bind_stops h f
  have write {w} := outcome_ends (setRm16_ends h w)
  have alu {op b} := binop16With_stops h op b
  have shift {op} := shift16_stops h (count := 1) (by decide) op
  simp only [wordMemoryForms, stopAtSegmentEnd_cons, stopAtSegmentEnd_nil, and_true]
  exact ⟨write, read, write, write, read,
    read, read, popRm_stops h, read, read, read,
    alu, read, alu, alu,
    alu, read, alu, alu,
    alu, read, alu, alu,
    alu, read, alu, alu,
    alu, read, alu, alu,
    alu, read, alu,
    alu, read, alu,
    alu, read, alu,
    alu, alu, read, read, read, read,
    read, read, read, read,
    read, read,
    shift, shift, shift, shift, shift,
    shift, shift⟩

theorem shiftForms_cl_stop {m : Mem} {s : State} (h : ea m s = 0xFFFF#16) (hc : (s.reg8 .cl).toNat % 32 ≠ 0) :
    StopAtSegmentEnd s [.rolRm16Cl (.mem m), .rorRm16Cl (.mem m), .rclRm16Cl (.mem m), .rcrRm16Cl (.mem m), .shlRm16Cl (.mem m),
      .shrRm16Cl (.mem m), .sarRm16Cl (.mem m)] := by
  have shift {op} := shift16_stops h hc op
  simp only [stopAtSegmentEnd_cons, stopAtSegmentEnd_nil, and_true]
  exact ⟨shift, shift, shift, shift, shift, shift, shift⟩

theorem shiftForms_imm8_stop {m : Mem} {s : State} {i : Byte} (h : ea m s = 0xFFFF#16) (hc : i.toNat % 32 ≠ 0) :
    StopAtSegmentEnd s [.rolRm16Imm8 (.mem m) i, .rorRm16Imm8 (.mem m) i, .rclRm16Imm8 (.mem m) i, .rcrRm16Imm8 (.mem m) i,
      .shlRm16Imm8 (.mem m) i, .shrRm16Imm8 (.mem m) i, .sarRm16Imm8 (.mem m) i] := by
  have shift {op} := shift16_stops h hc op
  simp only [stopAtSegmentEnd_cons, stopAtSegmentEnd_nil, and_true]
  exact ⟨shift, shift, shift, shift, shift, shift, shift⟩

theorem moffs_stop {a : Word} (ha : a = 0xFFFF#16) (s : State) : StopAtSegmentEnd s [.movAxMoffs16 a, .movMoffs16Ax a] := by
  have h : ea (.direct a) s = 0xFFFF#16 := ha
  have read {f} := getRm16_bind_stops h f
  have write {w} := outcome_ends (setRm16_ends h w)
  simp only [stopAtSegmentEnd_cons, stopAtSegmentEnd_nil, and_true]
  exact ⟨read, write⟩

theorem farPointerForms_stop {m : Mem} {s : State} (h : 0xFFFC#16 < ea m s) (r : Reg16) :
    StopAtSegmentEnd s [.lds r m, .les r m, .jmpMem32 m, .callMem32 m] := by
  have read {f} := outcome_ends (ends_bind (readPointer_end (seg := memSeg m s) s h) f)
  simp only [stopAtSegmentEnd_cons, stopAtSegmentEnd_nil, and_true]
  exact ⟨read, read, read, read⟩

theorem readWord_ends {off : Word} (h : off = 0xFFFF#16) (seg : Word) (s : State) : Ends (readWord seg off s) := by
  rw [h]; exact readWord_end seg s

theorem writeWord_ends {off : Word} (h : off = 0xFFFF#16) (seg v : Word) (s : State) : Ends (writeWord seg off v s) := by
  rw [h]; exact writeWord_end seg v s

/-- The upper bound is the second word that BOUND reads. -/
theorem bound_upper_stops {m : Mem} {s : State} (h : ea m s + 2 = 0xFFFF#16) (r : Reg16) :
    StopAtSegmentEnd s [.bound r m] := by
  refine stopAtSegmentEnd_singleton.mpr
    (outcome_ends (ends_bind_of_answersOrEnds (readWord_answersOrEnds (memSeg m s) (ea m s) s) ?_))
  rintro _ ⟨-, rfl⟩
  exact ends_bind (readWord_ends ((congrArg (· + 2) (ea_congr rfl m)).trans h) _ _) _

/-! ### The stack -/

theorem pushForms_stop {s : State} (h : s.regs.sp = 1) (r : Reg16) (rm : Rm16) (v off seg : Word) (i l : Byte) (m : Mem) :
    StopAtSegmentEnd s
      [.pushR16 r, .pushRm16 rm, .pushEs, .pushCs, .pushSs, .pushDs, .pushImm16 v, .pushImm8 i, .pushf, .pusha, .callNear v,
        .callRm16 rm, .callFar off seg, .callMem32 m, .enter v l] := by
  have ends {w} {t : State} (ht : t.regs = s.regs) : Ends (push w t) := push_end w (by rw [ht]; exact h)
  have alone {w} : outcome (push w s) = .fault .wordPastSegmentEnd := outcome_ends (ends rfl)
  have first {w f} : outcome (push w s >>= f) = .fault .wordPastSegmentEnd := outcome_ends (ends_bind (ends rfl) f)
  have pushed : AnswersOrEnds (pushedRm rm s) fun p => p.2.regs = s.regs := by
    unfold pushedRm
    split
    · exact answersOrEnds_ok rfl
    · exact getRm16_answersOrEnds rm s
  have pushRm16 : Ends (pushRm rm s) := ends_bind_of_answersOrEnds pushed fun _ hp => ends hp
  have callRm16 : Ends (callIndirect rm s) :=
    ends_bind_of_answersOrEnds (getRm16_answersOrEnds rm s) fun _ hp => ends_bind (ends hp) _
  have callMem32 : Ends (callFarIndirect m s) :=
    ends_bind_of_answersOrEnds (readPointer_answersOrEnds _ _ s) fun _ hp => ends_bind (ends hp) _
  simp only [stopAtSegmentEnd_cons, stopAtSegmentEnd_nil, and_true]
  exact ⟨alone, outcome_ends pushRm16, alone, alone, alone, alone, alone, alone, outcome_ends (ends (t := s.nextFree) rfl), first,
    first, outcome_ends callRm16, first, outcome_ends callMem32, first⟩

/-- A far CALL pushes two words. -/
theorem farCalls_stop {s : State} (h : s.regs.sp = 3) (off seg : Word) (m : Mem) :
    StopAtSegmentEnd s [.callFar off seg, .callMem32 m] := by
  have ends {seg off} {t : State} (ht : t.regs = s.regs) : Ends (callFarTo seg off t) :=
    ends_of_answersOrEnds (callFarTo_wordsBelow seg off t) fun _ hw => hw 1 (by decide) (by rw [ht, h]; rfl)
  have callMem32 : Ends (callFarIndirect m s) :=
    ends_bind_of_answersOrEnds (readPointer_answersOrEnds _ _ s) fun _ hp => ends hp
  simp only [stopAtSegmentEnd_cons, stopAtSegmentEnd_nil, and_true]
  exact ⟨outcome_ends (ends rfl), outcome_ends callMem32⟩

theorem pusha_stops {s : State} (h : ∃ k, k < 8 ∧ s.regs.sp - BitVec.ofNat 16 (2 * k + 2) = 0xFFFF#16) :
    StopAtSegmentEnd s [.pusha] := by
  obtain ⟨k, hk, hend⟩ := h
  exact stopAtSegmentEnd_singleton.mpr
    (outcome_ends (ends_of_answersOrEnds (pushList_wordsBelow _ s) fun _ hw => hw k hk hend))

theorem enter_stops_pushed {s : State} {l : Byte} (v : Word)
    (h : ∃ k, k ≤ l.toNat % 32 ∧ s.regs.sp - BitVec.ofNat 16 (2 * k + 2) = 0xFFFF#16) : StopAtSegmentEnd s [.enter v l] := by
  obtain ⟨k, hk, hend⟩ := h
  exact stopAtSegmentEnd_singleton.mpr
    (outcome_ends (ends_of_answersOrEnds (enterFrame_wordsBelow v l s) fun _ ⟨hsp, _⟩ => hsp k (by omega) hend))

theorem enter_stops_copied {s : State} {l : Byte} (v : Word)
    (h : ∃ k, k + 1 < l.toNat % 32 ∧ s.regs.bp - BitVec.ofNat 16 (2 * k + 2) = 0xFFFF#16) : StopAtSegmentEnd s [.enter v l] := by
  obtain ⟨k, hk, hend⟩ := h
  exact stopAtSegmentEnd_singleton.mpr
    (outcome_ends (ends_of_answersOrEnds (enterFrame_wordsBelow v l s) fun _ ⟨_, hbp⟩ => hbp k (by omega) hend))

theorem popForms_stop {s : State} (h : s.regs.sp = 0xFFFF#16) (r : Reg16) (rm : Rm16) (v : Word) : StopAtSegmentEnd s
    [.popR16 r, .popRm16 rm, .popEs, .popSs, .popDs, .popf, .popa, .retNear, .retNearImm16 v, .retFar, .retFarImm16 v, .iret] := by
  have first {f} := outcome_ends (ends_bind (pop_end h) f)
  simp only [stopAtSegmentEnd_cons, stopAtSegmentEnd_nil, and_true]
  exact ⟨first, first, first, first, first, first, first, first, first, first, first, first⟩

theorem farReturns_stop {s : State} (h : s.regs.sp = 0xFFFD#16) (v : Word) :
    StopAtSegmentEnd s [.retFar, .retFarImm16 v, .iret] := by
  have second : s.regs.sp + BitVec.ofNat 16 (2 * 1) = 0xFFFF#16 := by rw [h]; rfl
  have retFar {w} : Ends (retFarTo w s) := ends_of_answersOrEnds (retFarTo_wordsFrom w s) fun _ hw => hw 1 (by decide) second
  have iret := ends_of_answersOrEnds (returnFromInterrupt_wordsFrom s) fun _ hw => hw 1 (by decide) second
  simp only [stopAtSegmentEnd_cons, stopAtSegmentEnd_nil, and_true]
  exact ⟨outcome_ends retFar, outcome_ends retFar, outcome_ends iret⟩

theorem iret_stops {s : State} (h : s.regs.sp = 0xFFFB#16) : StopAtSegmentEnd s [.iret] :=
  stopAtSegmentEnd_singleton.mpr (outcome_ends
    (ends_of_answersOrEnds (returnFromInterrupt_wordsFrom s) fun _ hw => hw 2 (by decide) (by rw [h]; rfl)))

theorem popa_stops {s : State} (h : ∃ k, k < 8 ∧ s.regs.sp + BitVec.ofNat 16 (2 * k) = 0xFFFF#16) :
    StopAtSegmentEnd s [.popa] := by
  obtain ⟨k, hk, hend⟩ := h
  exact stopAtSegmentEnd_singleton.mpr
    (outcome_ends (ends_of_answersOrEnds (popAll_wordsFrom s) fun _ hw => hw k hk hend))

theorem leave_stops {s : State} (h : s.regs.bp = 0xFFFF#16) : StopAtSegmentEnd s [.leave] :=
  stopAtSegmentEnd_singleton.mpr (outcome_ends (ends_bind (pop_end (s := s.setReg16 .sp s.regs.bp) h) _))

/-! ### Strings -/

/-- An element runs: the string is not repeated, or elements are left and the instruction can be repeated so (`43_string.md` R361). -/
def RunsElement (compare : Bool) (s : State) : Prop :=
  s.pfx.rep = none ∨ ∃ r, s.pfx.rep = some r ∧ (compare = true ∨ r = .rep) ∧ s.regs.cx ≠ 0

theorem stringStep_stops {self : Instr} {compare : Bool} {body : State → Except Stop State} {s : State}
    (hruns : RunsElement compare s) (h : Ends (body s)) : outcome (stringStep self compare body s) = .fault .wordPastSegmentEnd := by
  refine outcome_ends ?_
  unfold stringStep
  rcases hruns with hnone | ⟨r, hsome, htakes, hcx⟩
  · rw [hnone]; exact h
  · have hmisused : ¬(compare = false ∧ r = .repne) := by rcases htakes with rfl | rfl <;> simp
    simp only [hsome, if_neg hmisused, if_neg hcx]
    exact ends_bind h _

theorem movs16_ends_source {s : State} (h : s.regs.si = 0xFFFF#16) : Ends (movs16 s) := ends_bind (readWord_ends h _ s) _

theorem movs16_ends_dest {s : State} (h : s.regs.di = 0xFFFF#16) : Ends (movs16 s) := by
  refine ends_bind_of_answersOrEnds (readWord_answersOrEnds _ _ s) ?_
  rintro _ ⟨-, rfl⟩
  exact ends_bind (writeWord_ends h _ _ _) _

theorem cmps16_ends_source {s : State} (h : s.regs.si = 0xFFFF#16) : Ends (cmps16 s) := ends_bind (readWord_ends h _ s) _

theorem cmps16_ends_dest {s : State} (h : s.regs.di = 0xFFFF#16) : Ends (cmps16 s) := by
  refine ends_bind_of_answersOrEnds (readWord_answersOrEnds _ _ s) ?_
  rintro _ ⟨-, rfl⟩
  exact ends_bind (readWord_ends h _ _) _

theorem lods16_ends {s : State} (h : s.regs.si = 0xFFFF#16) : Ends (lods16 s) := ends_bind (readWord_ends h _ s) _

theorem outs16_ends {s : State} (h : s.regs.si = 0xFFFF#16) : Ends (outs16 s) := ends_bind (readWord_ends h _ s) _

theorem stos16_ends {s : State} (h : s.regs.di = 0xFFFF#16) : Ends (stos16 s) := ends_bind (writeWord_ends h _ _ s) _

theorem scas16_ends {s : State} (h : s.regs.di = 0xFFFF#16) : Ends (scas16 s) := ends_bind (readWord_ends h _ s) _

theorem checkPort_word_ok {port : Word} (h : port ≤ 0xF6#16 ∨ 0x100#16 ≤ port) (hlast : port ≠ 0xFFFF#16) :
    checkPort true port = .ok () := by
  have hfree : touchesReservedPort true port = false := by
    simp only [touchesReservedPort, if_true, Bool.and_eq_false_iff, decide_eq_false_iff_not]; bv_omega
  simp [checkPort, hlast, hfree]

/-- INSW reads its port before it writes. -/
theorem ins16_ends {s : State} (h : s.regs.di = 0xFFFF#16) (hport : checkPort true s.regs.dx = .ok ()) : Ends (ins16 s) := by
  simp only [ins16, ioReadWord, hport, ok_bind]
  exact ends_bind (writeWord_ends h _ _ _) _

theorem strings_source_stop {s : State} (hruns : ∀ compare, RunsElement compare s) (h : s.regs.si = 0xFFFF#16) :
    StopAtSegmentEnd s [.movsw, .cmpsw, .lodsw, .outsw] := by
  simp only [stopAtSegmentEnd_cons, stopAtSegmentEnd_nil, and_true]
  exact ⟨stringStep_stops (hruns _) (movs16_ends_source h), stringStep_stops (hruns _) (cmps16_ends_source h),
    stringStep_stops (hruns _) (lods16_ends h), stringStep_stops (hruns _) (outs16_ends h)⟩

theorem strings_dest_stop {s : State} (hruns : ∀ compare, RunsElement compare s) (h : s.regs.di = 0xFFFF#16) :
    StopAtSegmentEnd s [.movsw, .cmpsw, .stosw, .scasw] := by
  simp only [stopAtSegmentEnd_cons, stopAtSegmentEnd_nil, and_true]
  exact ⟨stringStep_stops (hruns _) (movs16_ends_dest h), stringStep_stops (hruns _) (cmps16_ends_dest h),
    stringStep_stops (hruns _) (stos16_ends h), stringStep_stops (hruns _) (scas16_ends h)⟩

theorem insw_stops {s : State} (hruns : RunsElement false s) (h : s.regs.di = 0xFFFF#16)
    (hport : s.regs.dx ≤ 0xF6#16 ∨ 0x100#16 ≤ s.regs.dx) (hlast : s.regs.dx ≠ 0xFFFF#16) : StopAtSegmentEnd s [.insw] :=
  stopAtSegmentEnd_singleton.mpr (stringStep_stops hruns (ins16_ends h (checkPort_word_ok hport hlast)))

theorem cmpsw_source_stops {s : State} (hruns : RunsElement true s) (h : s.regs.si = 0xFFFF#16) : StopAtSegmentEnd s [.cmpsw] :=
  stopAtSegmentEnd_singleton.mpr (stringStep_stops hruns (cmps16_ends_source h))

theorem compares_dest_stop {s : State} (hruns : RunsElement true s) (h : s.regs.di = 0xFFFF#16) :
    StopAtSegmentEnd s [.cmpsw, .scasw] := by
  simp only [stopAtSegmentEnd_cons, stopAtSegmentEnd_nil, and_true]
  exact ⟨stringStep_stops hruns (cmps16_ends_dest h), stringStep_stops hruns (scas16_ends h)⟩

/-! ### Interrupt entries -/

/-- SP leaves no room for the three words of an interrupt frame. -/
def FramePastEnd (s : State) : Prop := s.regs.sp = 1 ∨ s.regs.sp = 3 ∨ s.regs.sp = 5

theorem FramePastEnd.not_wordsBelow {s : State} (h : FramePastEnd s) : ¬WordsBelow 3 s.regs.sp := by
  intro hw
  rcases h with h | h | h
  · exact hw 0 (by decide) (by rw [h]; rfl)
  · exact hw 1 (by decide) (by rw [h]; rfl)
  · exact hw 2 (by decide) (by rw [h]; rfl)

theorem frameOverlaps_congr {s t : State} (hr : t.regs = s.regs) (hs : t.sregs = s.sregs) (n : Byte) :
    frameOverlaps n t = frameOverlaps n s := by simp only [frameOverlaps, frameBytes, hr, hs]

/-- An entry from a state `t` on the stack of `s` stops with the frame. -/
theorem enter_ends {n : Byte} {s t : State} (hsp : FramePastEnd s) (h : frameOverlaps n s = false) (hr : t.regs = s.regs)
    (hs : t.sregs = s.sregs) : Ends (enter n t) :=
  ends_of_answersOrEnds (enter_wordsBelow ((frameOverlaps_congr hr hs n).trans h)) fun _ hw =>
    hsp.not_wordsBelow (by rwa [hr] at hw)

theorem interrupts_stop {n : Byte} {s : State} (hsp : FramePastEnd s) (h : frameOverlaps n s = false) :
    StopAtSegmentEnd s [.intImm8 n] ∧ (n = 3 → StopAtSegmentEnd s [.int3]) ∧
      (n = 4 → s.flags.ofl = true → StopAtSegmentEnd s [.into]) := by
  have entry := outcome_ends (enter_ends hsp h rfl rfl)
  simp only [stopAtSegmentEnd_singleton]
  refine ⟨entry, ?_, ?_⟩
  · rintro rfl; exact entry
  · rintro rfl hof
    show outcome (if s.flags.ofl then raiseTrap 4 s else .ok s) = _
    rw [if_pos hof]; exact entry

theorem escape_ends {s : State} (hsp : FramePastEnd s) (h : frameOverlaps 7 s = false)
    (hraises : s.numericsMode = false ∨ s.et = true ∨ Config.bus16 = false) : Ends (escape s) := by
  have hraises : (!s.numericsMode || s.et || !Config.bus16) = true := by simpa [or_assoc] using hraises
  rw [escape, if_pos hraises]
  exact enter_ends hsp h rfl rfl

/-- A divide error after an operand was read. -/
theorem divideError_ends {s : State} (hsp : FramePastEnd s) (h : frameOverlaps 0 s = false) (es : List BusEvent) :
    Ends (divideError (s.logEvents es).divFlags) := enter_ends hsp h rfl rfl

theorem div8_ends {rm : Rm8} {s : State} (hsp : FramePastEnd s) (h : frameOverlaps 0 s = false)
    (hq : opByte rm s = 0 ∨ 0xFF < s.regs.ax.toNat / (opByte rm s).toNat) : Ends (div8 rm s) := by
  have herror : (opByte rm s).toNat = 0 ∨ 0xFF < s.regs.ax.toNat / (opByte rm s).toNat :=
    hq.imp_left fun hzero => by rw [hzero]; rfl
  rw [div8, getRm8_eq]
  exact (if_pos herror).trans (divideError_ends hsp h _)

theorem div16_ends {rm : Rm16} {s : State} (hsp : FramePastEnd s) (h : frameOverlaps 0 s = false) (ha : Accessible rm s)
    (hq : opWord rm s = 0 ∨ 0xFFFF < (s.regs.dx.toNat * 2 ^ 16 + s.regs.ax.toNat) / (opWord rm s).toNat) : Ends (div16 rm s) := by
  have herror : (opWord rm s).toNat = 0 ∨ 0xFFFF < (s.regs.dx.toNat * 2 ^ 16 + s.regs.ax.toNat) / (opWord rm s).toNat :=
    hq.imp_left fun hzero => by rw [hzero]; rfl
  rw [div16, getRm16_ok ha, ok_bind]
  exact (if_pos herror).trans (divideError_ends hsp h _)

/-- A quotient beyond either bound fits no destination of `w` bits, whatever is done with the bound itself (log 12). -/
theorem quotientFits_eq_false {w : Nat} {q : Int} (h : q < -(2 ^ (w - 1)) ∨ 2 ^ (w - 1) ≤ q) : quotientFits w q = false := by
  rw [quotientFits, Bool.and_eq_false_iff, Bool.or_eq_false_iff, Bool.and_eq_false_iff]
  simp only [decide_eq_false_iff_not]
  omega

theorem idiv8_ends {rm : Rm8} {s : State} (hsp : FramePastEnd s) (h : frameOverlaps 0 s = false)
    (hq : opByte rm s = 0 ∨ s.regs.ax.toInt.tdiv (opByte rm s).toInt < -128 ∨ 127 < s.regs.ax.toInt.tdiv (opByte rm s).toInt) :
    Ends (idiv8 rm s) := by
  have herror : (opByte rm s).toInt = 0 ∨ quotientFits 8 (s.regs.ax.toInt.tdiv (opByte rm s).toInt) = false :=
    hq.imp (fun hzero => by rw [hzero]; rfl) fun hrange => quotientFits_eq_false (by omega)
  rw [idiv8, getRm8_eq]
  exact (if_pos herror).trans (divideError_ends hsp h _)

theorem idiv16_ends {rm : Rm16} {s : State} (hsp : FramePastEnd s) (h : frameOverlaps 0 s = false) (ha : Accessible rm s)
    (hq : opWord rm s = 0 ∨ (s.regs.dx ++ s.regs.ax : BitVec 32).toInt.tdiv (opWord rm s).toInt < -32768 ∨
      32767 < (s.regs.dx ++ s.regs.ax : BitVec 32).toInt.tdiv (opWord rm s).toInt) : Ends (idiv16 rm s) := by
  have herror : (opWord rm s).toInt = 0 ∨
      quotientFits 16 ((s.regs.dx ++ s.regs.ax : BitVec 32).toInt.tdiv (opWord rm s).toInt) = false :=
    hq.imp (fun hzero => by rw [hzero]; rfl) fun hrange => quotientFits_eq_false (by omega)
  rw [idiv16, getRm16_ok ha, ok_bind]
  exact (if_pos herror).trans (divideError_ends hsp h _)

/-- Outside its bounds, or with a bound at the end of the segment, BOUND stops. -/
theorem boundOp_ends {r : Reg16} {m : Mem} {s : State} (hsp : FramePastEnd s) (h : frameOverlaps 5 s = false)
    (hout : (s.reg16 r).toInt < (s.loadWord (phys (memSeg m s) (ea m s))).toInt ∨
      (s.loadWord (phys (memSeg m s) (ea m s + 2))).toInt < (s.reg16 r).toInt) : Ends (boundOp r m s) := by
  refine ends_bind_of_answersOrEnds (readWord_answersOrEnds (memSeg m s) (ea m s) s) ?_
  rintro _ ⟨-, rfl⟩
  dsimp only
  rw [show memSeg m (s.logEvents _) = memSeg m s from rfl, ea_congr (s := s) rfl m]
  refine ends_bind_of_answersOrEnds (readWord_answersOrEnds (memSeg m s) (ea m s + 2) _) ?_
  rintro _ ⟨-, rfl⟩
  exact (if_pos hout).trans (enter_ends hsp h rfl rfl)

/-- Settles O14: each clause is the lemma about its forms or its entry. -/
theorem wordPastSegmentEndStops : Obligations.WordPastSegmentEndStops := by
  refine ⟨fun s m r v off seg i l sr rm => ⟨fun h => wordMemoryForms_stop h r v i sr, fun h => bound_upper_stops h r,
    shiftForms_cl_stop, shiftForms_imm8_stop, moffs_stop rfl s, fun h => farPointerForms_stop h r,
    fun h => pushForms_stop h r rm v off seg i l m, fun h => farCalls_stop h off seg m, pusha_stops, enter_stops_pushed v,
    enter_stops_copied v, fun _ => interrupts_stop, fun h => popForms_stop h r rm v, fun h => farReturns_stop h v, iret_stops,
    popa_stops, leave_stops, fun hrep => ?rep, fun hrep hcx => ?repne⟩, fun s hsp => ?entries⟩
  case rep =>
    have hruns (compare : Bool) : RunsElement compare s := hrep.imp_right fun ⟨hrep, hcx⟩ => ⟨.rep, hrep, .inr rfl, hcx⟩
    exact ⟨strings_source_stop hruns, strings_dest_stop hruns, insw_stops (hruns _)⟩
  case repne =>
    have hruns : RunsElement true s := .inr ⟨.repne, hrep, .inl rfl, hcx⟩
    exact ⟨cmpsw_source_stops hruns, compares_dest_stop hruns⟩
  case entries =>
    simp only [stopAtSegmentEnd_singleton]
    refine ⟨fun _ h => enter_ends hsp h rfl rfl, fun _ _ _ h hraises => outcome_ends (escape_ends hsp h hraises),
      fun _ h hq => outcome_ends (div8_ends hsp h hq), fun _ h ha hq => outcome_ends (div16_ends hsp h ha hq), ?_, ?_, ?_⟩
    · rintro rm _ h rfl hq; exact outcome_ends (idiv8_ends hsp h hq)
    · rintro rm _ h ha rfl hq; exact outcome_ends (idiv16_ends hsp h ha hq)
    · rintro r m _ _ h rfl rfl hout; exact outcome_ends (boundOp_ends hsp h hout)

end Sys2Proof.Proofs
end

section
/-! SUPPORT. Proofs of the statements about encodings (`30_encoding.md`): decoding inverts encoding, both ways; the table of undefined
encodings; effective addresses. -/

namespace Sys2Proof.Proofs

open Sys2Proof Sys2Proof.Machine Sys2Proof.Safety Sys2Proof.Laws

/-- Settles O2: the encoder writes complete encodings. -/
theorem decodeOfEncode : Obligations.DecodeOfEncode := fun _ rest hwf => (encode_encodes hwf).2 rest

/-! ### Reading is writing back: where a reader answers an instruction, it has read the bytes that the encoder writes -/

theorem encWord_joinBytes (lo hi : Byte) : encWord (joinBytes lo hi) = [lo, hi] := by
  rw [encWord, lowByte_joinBytes, highByte_joinBytes]

/-- A byte is the ModRM byte of its three fields (`30_encoding.md` R124). -/
theorem exists_eq_modrm (b : Byte) : ∃ md reg rm, b = modrm md reg rm :=
  ⟨b.extractLsb' 6 2, b.extractLsb' 3 3, b.extractLsb' 0 3, by revert b; decide⟩

@[simp] theorem codeReg8_reg8Of (c : BitVec 3) : codeReg8 (reg8Of c.toNat) = c := by revert c; decide

@[simp] theorem codeReg16_reg16Of (c : BitVec 3) : codeReg16 (reg16Of c.toNat) = c := by revert c; decide

@[simp] theorem codeBase_eaBaseOf (c : BitVec 3) : codeBase (eaBaseOf c.toNat) = c := by revert c; decide

theorem takeByte_eq_instr {bs rest : List Byte} {k : Byte → List Byte → Decoded} {i : Instr} (h : takeByte bs k = .instr i rest) :
    ∃ b after, bs = b :: after ∧ k b after = .instr i rest := by
  cases bs with
  | nil => cases h
  | cons b after => exact ⟨b, after, rfl, h⟩

theorem takeWord_eq_instr {bs rest : List Byte} {k : Word → List Byte → Decoded} {i : Instr} (h : takeWord bs k = .instr i rest) :
    ∃ v after, bs = encWord v ++ after ∧ k v after = .instr i rest := by
  obtain ⟨lo, afterLo, hlo, hread⟩ := takeByte_eq_instr h
  obtain ⟨hi, after, hhi, hk⟩ := takeByte_eq_instr hread
  exact ⟨joinBytes lo hi, after, by simp [encWord_joinBytes, hlo, hhi], hk⟩

/-- The operand read after a ModRM byte that names memory is well-formed: `[BP]` has a displacement (R130). -/
theorem takeMem_eq_instr {md : BitVec 2} (hmd : md ≠ 3) (reg : BitVec 3) {rm : BitVec 3} {bs rest : List Byte}
    {k : Mem → List Byte → Decoded} {i : Instr} (h : takeMem md.toNat rm.toNat bs k = .instr i rest) :
    ∃ m after, m.wf = true ∧ modrm md reg rm :: bs = encMem reg m ++ after ∧ k m after = .instr i rest := by
  have hcases : md = 0 ∨ md = 1 ∨ md = 2 := by clear h; revert md; decide
  rcases hcases with rfl | rfl | rfl
  · by_cases hrm : rm = 6
    · obtain ⟨a, after, hbs, hk⟩ := takeWord_eq_instr (k := fun a => k (.direct a)) (by simpa [takeMem, hrm] using h)
      exact ⟨.direct a, after, rfl, by simp [encMem, hrm, hbs], hk⟩
    · have hcode : ¬rm.toNat = 6 := fun e => hrm (BitVec.eq_of_toNat_eq e)
      have hbase : eaBaseOf rm.toNat ≠ .bp := fun e => hrm (by rw [← codeBase_eaBaseOf rm, e]; rfl)
      exact ⟨.plain (eaBaseOf rm.toNat), bs, by simpa [Mem.wf] using hbase, by simp [encMem], by simpa [takeMem, hcode] using h⟩
  · obtain ⟨d, after, hbs, hk⟩ := takeByte_eq_instr (k := fun d => k (.disp8 (eaBaseOf rm.toNat) d)) h
    exact ⟨.disp8 (eaBaseOf rm.toNat) d, after, rfl, by simp [encMem, hbs], hk⟩
  · obtain ⟨d, after, hbs, hk⟩ := takeWord_eq_instr (k := fun d => k (.disp16 (eaBaseOf rm.toNat) d)) h
    exact ⟨.disp16 (eaBaseOf rm.toNat) d, after, rfl, by simp [encMem, hbs], hk⟩

/-- A ModRM byte names a register (`mod = 11`) or memory (R132). -/
theorem takeRm_eq_instr {ρ : Type} {regOf : Nat → ρ} {bs rest : List Byte} {k : Nat → RegMem ρ → List Byte → Decoded} {i : Instr}
    (h : takeRm regOf bs k = .instr i rest) : ∃ reg after,
      (∃ c : BitVec 3, bs = modrm 3 reg c :: after ∧ k reg.toNat (.reg (regOf c.toNat)) after = .instr i rest) ∨
      ∃ m, m.wf = true ∧ bs = encMem reg m ++ after ∧ k reg.toNat (.mem m) after = .instr i rest := by
  obtain ⟨b, afterModrm, hbs, hread⟩ := takeByte_eq_instr h
  obtain ⟨md, reg, rm, rfl⟩ := exists_eq_modrm b
  rw [modField_modrm, regField_modrm, rmField_modrm] at hread
  split at hread
  case isTrue hmd => exact ⟨reg, afterModrm, .inl ⟨rm, by rw [hbs, show md = 3 from BitVec.eq_of_toNat_eq hmd], hread⟩⟩
  case isFalse hmd =>
    obtain ⟨m, after, hwf, hbytes, hk⟩ := takeMem_eq_instr (fun e => hmd (by rw [e]; rfl)) reg hread
    exact ⟨reg, after, .inr ⟨m, hwf, hbs.trans hbytes, hk⟩⟩

theorem takeRm8_eq_instr {bs rest : List Byte} {k : Nat → Rm8 → List Byte → Decoded} {i : Instr}
    (h : takeRm reg8Of bs k = .instr i rest) :
    ∃ reg rm after, rm.wf = true ∧ bs = encRm8 reg rm ++ after ∧ k reg.toNat rm after = .instr i rest := by
  obtain ⟨reg, after, ⟨c, hbs, hk⟩ | ⟨m, hwf, hbs, hk⟩⟩ := takeRm_eq_instr h
  · exact ⟨reg, .reg (reg8Of c.toNat), after, rfl, by simp [encRm8, hbs], hk⟩
  · exact ⟨reg, .mem m, after, hwf, hbs, hk⟩

theorem takeRm16_eq_instr {bs rest : List Byte} {k : Nat → Rm16 → List Byte → Decoded} {i : Instr}
    (h : takeRm reg16Of bs k = .instr i rest) :
    ∃ reg rm after, rm.wf = true ∧ bs = encRm16 reg rm ++ after ∧ k reg.toNat rm after = .instr i rest := by
  obtain ⟨reg, after, ⟨c, hbs, hk⟩ | ⟨m, hwf, hbs, hk⟩⟩ := takeRm_eq_instr h
  · exact ⟨reg, .reg (reg16Of c.toNat), after, rfl, by simp [encRm16, hbs], hk⟩
  · exact ⟨reg, .mem m, after, hwf, hbs, hk⟩

theorem takeMemOnly_eq_instr {bs rest : List Byte} {k : Nat → Mem → List Byte → Decoded} {i : Instr}
    (h : takeMemOnly bs k = .instr i rest) :
    ∃ reg m after, m.wf = true ∧ bs = encMem reg m ++ after ∧ k reg.toNat m after = .instr i rest := by
  obtain ⟨b, afterModrm, hbs, hread⟩ := takeByte_eq_instr h
  obtain ⟨md, reg, rm, rfl⟩ := exists_eq_modrm b
  rw [modField_modrm, regField_modrm, rmField_modrm] at hread
  split at hread
  case isTrue => cases hread
  case isFalse hmd =>
    obtain ⟨m, after, hwf, hbytes, hk⟩ := takeMem_eq_instr (fun e => hmd (by rw [e]; rfl)) reg hread
    exact ⟨reg, m, after, hwf, hbs.trans hbytes, hk⟩

/-! ### The rows of the opcode map hold the instructions that the encoder writes there -/

/-- Every instruction of the row has an encoding, which is the opcode byte `op` and the operands in the row's format (R122). Where
the row depends on `modrm[5:3]`, `d` is that field. -/
def RowEncodes (op : Byte) (d : BitVec 3) : Row → Prop
  | .undefined => True
  | .undocumented => True
  | .o i => i.wf = true ∧ encode i = [op]
  | .second b i => i.wf = true ∧ encode i = [op, b]
  | .i8 f => ∀ b, (f b).wf = true ∧ encode (f b) = [op, b]
  | .i16 f => ∀ v, (f v).wf = true ∧ encode (f v) = op :: encWord v
  | .i16i8 f => ∀ v b, (f v b).wf = true ∧ encode (f v b) = op :: (encWord v ++ [b])
  | .p32 f => ∀ off seg, (f off seg).wf = true ∧ encode (f off seg) = op :: (encWord off ++ encWord seg)
  | .m8 f => ∀ rm, rm.wf = true → (f rm).wf = true ∧ encode (f rm) = op :: encRm8 d rm
  | .m16 f => ∀ rm, rm.wf = true → (f rm).wf = true ∧ encode (f rm) = op :: encRm16 d rm
  | .m f => ∀ m, m.wf = true → (f m).wf = true ∧ encode (f m) = op :: encMem d m
  | .m8r f => ∀ rm r, rm.wf = true → (f rm r).wf = true ∧ encode (f rm r) = op :: encRm8 (codeReg8 r) rm
  | .m16r f => ∀ rm r, rm.wf = true → (f rm r).wf = true ∧ encode (f rm r) = op :: encRm16 (codeReg16 r) rm
  | .mr f => ∀ r m, m.wf = true → (f r m).wf = true ∧ encode (f r m) = op :: encMem (codeReg16 r) m
  | .m16d f => ∀ y rm, rm.wf = true → (f y rm).wf = true ∧ encode (f y rm) = op :: encRm16 y rm
  | .m8i8 f => ∀ rm b, rm.wf = true → (f rm b).wf = true ∧ encode (f rm b) = op :: (encRm8 d rm ++ [b])
  | .m16i8 f => ∀ rm b, rm.wf = true → (f rm b).wf = true ∧ encode (f rm b) = op :: (encRm16 d rm ++ [b])
  | .m16i16 f => ∀ rm v, rm.wf = true → (f rm v).wf = true ∧ encode (f rm v) = op :: (encRm16 d rm ++ encWord v)
  | .m16ri8 f => ∀ r rm b, rm.wf = true →
      (f r rm b).wf = true ∧ encode (f r rm b) = op :: (encRm16 (codeReg16 r) rm ++ [b])
  | .m16ri16 f => ∀ r rm v, rm.wf = true →
      (f r rm v).wf = true ∧ encode (f r rm v) = op :: (encRm16 (codeReg16 r) rm ++ encWord v)

/-- A fact about a hexadecimal digit, one by one. -/
theorem of_all_nibbles {P : Nat → Prop} {n : Nat} (hn : n < 16)
    (h : P 0 ∧ P 1 ∧ P 2 ∧ P 3 ∧ P 4 ∧ P 5 ∧ P 6 ∧ P 7 ∧ P 8 ∧ P 9 ∧ P 10 ∧ P 11 ∧ P 12 ∧ P 13 ∧ P 14 ∧ P 15) : P n := by
  have hcases : n = 0 ∨ n = 1 ∨ n = 2 ∨ n = 3 ∨ n = 4 ∨ n = 5 ∨ n = 6 ∨ n = 7 ∨ n = 8 ∨ n = 9 ∨ n = 10 ∨ n = 11 ∨ n = 12 ∨
    n = 13 ∨ n = 14 ∨ n = 15 := by omega
  rcases hcases with rfl | rfl | rfl | rfl | rfl | rfl | rfl | rfl | rfl | rfl | rfl | rfl | rfl | rfl | rfl | rfl <;> simp only [h]

/-- A fact about `modrm[5:3]`, one by one. -/
theorem of_all_digits {P : Nat → Prop} {d : Nat} (hd : d < 8) (h : P 0 ∧ P 1 ∧ P 2 ∧ P 3 ∧ P 4 ∧ P 5 ∧ P 6 ∧ P 7) : P d := by
  have hcases : d = 0 ∨ d = 1 ∨ d = 2 ∨ d = 3 ∨ d = 4 ∨ d = 5 ∨ d = 6 ∨ d = 7 := by omega
  rcases hcases with rfl | rfl | rfl | rfl | rfl | rfl | rfl | rfl <;> simp only [h]

theorem movSregRm16_wf {sr : SReg} (h : sr ≠ .cs) (rm : Rm16) : (Instr.movSregRm16 sr rm).wf = rm.wf := by
  simp [Instr.wf, h]

/-! The sixteen parts of the map, one for each high digit of the opcode byte. Each row is compared with the encoder's equation for
its constructor; where the row depends on `modrm[5:3]`, for each of its values. -/

theorem opcodeRow0_encodes {lo : Nat} (hlo : lo < 16) (c : BitVec 3) (d : Nat) :
    RowEncodes (BitVec.ofNat 8 (16 * 0 + lo)) c (opcodeRow0 lo d) := by
  apply of_all_nibbles hlo
  simp only [opcodeRow0, RowEncodes]
  and_intros <;> intros <;> and_intros <;> trivial

theorem opcodeRow1_encodes {lo : Nat} (hlo : lo < 16) (c : BitVec 3) (d : Nat) :
    RowEncodes (BitVec.ofNat 8 (16 * 1 + lo)) c (opcodeRow1 lo d) := by
  apply of_all_nibbles hlo
  simp only [opcodeRow1, RowEncodes]
  and_intros <;> intros <;> and_intros <;> trivial

theorem opcodeRow2_encodes {lo : Nat} (hlo : lo < 16) (c : BitVec 3) (d : Nat) :
    RowEncodes (BitVec.ofNat 8 (16 * 2 + lo)) c (opcodeRow2 lo d) := by
  apply of_all_nibbles hlo
  simp only [opcodeRow2, RowEncodes]
  and_intros <;> intros <;> and_intros <;> trivial

theorem opcodeRow3_encodes {lo : Nat} (hlo : lo < 16) (c : BitVec 3) (d : Nat) :
    RowEncodes (BitVec.ofNat 8 (16 * 3 + lo)) c (opcodeRow3 lo d) := by
  apply of_all_nibbles hlo
  simp only [opcodeRow3, RowEncodes]
  and_intros <;> intros <;> and_intros <;> trivial

theorem opcodeRow4_encodes {lo : Nat} (hlo : lo < 16) (c : BitVec 3) (d : Nat) :
    RowEncodes (BitVec.ofNat 8 (16 * 4 + lo)) c (opcodeRow4 lo d) := by
  apply of_all_nibbles hlo
  simp only [opcodeRow4, RowEncodes]
  and_intros <;> trivial

theorem opcodeRow5_encodes {lo : Nat} (hlo : lo < 16) (c : BitVec 3) (d : Nat) :
    RowEncodes (BitVec.ofNat 8 (16 * 5 + lo)) c (opcodeRow5 lo d) := by
  apply of_all_nibbles hlo
  simp only [opcodeRow5, RowEncodes]
  and_intros <;> trivial

theorem opcodeRow6_encodes {lo : Nat} (hlo : lo < 16) (c : BitVec 3) (d : Nat) :
    RowEncodes (BitVec.ofNat 8 (16 * 6 + lo)) c (opcodeRow6 lo d) := by
  apply of_all_nibbles hlo
  simp only [opcodeRow6, RowEncodes]
  and_intros <;> intros <;> and_intros <;> trivial

theorem opcodeRow7_encodes {lo : Nat} (hlo : lo < 16) (c : BitVec 3) (d : Nat) :
    RowEncodes (BitVec.ofNat 8 (16 * 7 + lo)) c (opcodeRow7 lo d) := by
  apply of_all_nibbles hlo
  simp only [opcodeRow7, RowEncodes]
  and_intros <;> intros <;> and_intros <;> trivial

theorem opcodeRow8_encodes {lo d : Nat} (hlo : lo < 16) (hd : d < 8) :
    RowEncodes (BitVec.ofNat 8 (16 * 8 + lo)) (BitVec.ofNat 3 d) (opcodeRow8 lo d) := by
  apply of_all_digits hd
  and_intros <;> apply of_all_nibbles hlo <;>
    simp only [opcodeRow8, RowEncodes, movSregRm16_wf, ne_eq, reduceCtorEq, not_false_eq_true] <;>
      and_intros <;> intros <;> and_intros <;> trivial

theorem opcodeRow9_encodes {lo : Nat} (hlo : lo < 16) (c : BitVec 3) (d : Nat) :
    RowEncodes (BitVec.ofNat 8 (16 * 9 + lo)) c (opcodeRow9 lo d) := by
  apply of_all_nibbles hlo
  simp only [opcodeRow9, RowEncodes]
  and_intros <;> intros <;> and_intros <;> trivial

theorem opcodeRowA_encodes {lo : Nat} (hlo : lo < 16) (c : BitVec 3) (d : Nat) :
    RowEncodes (BitVec.ofNat 8 (16 * 10 + lo)) c (opcodeRowA lo d) := by
  apply of_all_nibbles hlo
  simp only [opcodeRowA, RowEncodes]
  and_intros <;> intros <;> and_intros <;> trivial

theorem opcodeRowB_encodes {lo : Nat} (hlo : lo < 16) (c : BitVec 3) (d : Nat) :
    RowEncodes (BitVec.ofNat 8 (16 * 11 + lo)) c (opcodeRowB lo d) := by
  apply of_all_nibbles hlo
  simp only [opcodeRowB, RowEncodes]
  and_intros <;> intros <;> and_intros <;> trivial

theorem opcodeRowC_encodes {lo d : Nat} (hlo : lo < 16) (hd : d < 8) :
    RowEncodes (BitVec.ofNat 8 (16 * 12 + lo)) (BitVec.ofNat 3 d) (opcodeRowC lo d) := by
  apply of_all_digits hd
  and_intros <;> apply of_all_nibbles hlo <;>
    simp only [opcodeRowC, RowEncodes] <;> and_intros <;> intros <;> and_intros <;> trivial

theorem opcodeRowD_encodes {lo d : Nat} (hlo : lo < 16) (hd : d < 8) :
    RowEncodes (BitVec.ofNat 8 (16 * 13 + lo)) (BitVec.ofNat 3 d) (opcodeRowD lo d) := by
  apply of_all_digits hd
  and_intros <;> apply of_all_nibbles hlo <;>
    simp only [opcodeRowD, RowEncodes] <;> and_intros <;> intros <;> and_intros <;> trivial

theorem opcodeRowE_encodes {lo : Nat} (hlo : lo < 16) (c : BitVec 3) (d : Nat) :
    RowEncodes (BitVec.ofNat 8 (16 * 14 + lo)) c (opcodeRowE lo d) := by
  apply of_all_nibbles hlo
  simp only [opcodeRowE, RowEncodes]
  and_intros <;> intros <;> and_intros <;> trivial

theorem opcodeRowF_encodes {lo d : Nat} (hlo : lo < 16) (hd : d < 8) :
    RowEncodes (BitVec.ofNat 8 (16 * 15 + lo)) (BitVec.ofNat 3 d) (opcodeRowF lo d) := by
  apply of_all_digits hd
  and_intros <;> apply of_all_nibbles hlo <;>
    simp only [opcodeRowF, RowEncodes] <;> and_intros <;> intros <;> and_intros <;> trivial

theorem regField_lt (b : Byte) : regField b < 8 := Nat.mod_lt _ (by decide)

/-- The opcode map and the encoder agree. -/
theorem opcodeRow_encodes (op : Byte) {d : Nat} (hd : d < 8) : RowEncodes op (BitVec.ofNat 3 d) (opcodeRow op d) := by
  have hlo : op.toNat % 16 < 16 := Nat.mod_lt _ (by decide)
  have hhi : op.toNat / 16 < 16 := by have := op.isLt; omega
  have hop : op = BitVec.ofNat 8 (16 * (op.toNat / 16) + op.toNat % 16) := by simp [Nat.div_add_mod]
  unfold opcodeRow
  generalize op.toNat / 16 = hi at hop hhi ⊢
  generalize op.toNat % 16 = lo at hop hlo ⊢
  subst hop
  apply of_all_nibbles hhi
  exact ⟨opcodeRow0_encodes hlo _ _, opcodeRow1_encodes hlo _ _, opcodeRow2_encodes hlo _ _, opcodeRow3_encodes hlo _ _,
    opcodeRow4_encodes hlo _ _, opcodeRow5_encodes hlo _ _, opcodeRow6_encodes hlo _ _, opcodeRow7_encodes hlo _ _,
    opcodeRow8_encodes hlo hd, opcodeRow9_encodes hlo _ _, opcodeRowA_encodes hlo _ _, opcodeRowB_encodes hlo _ _,
    opcodeRowC_encodes hlo hd, opcodeRowD_encodes hlo hd, opcodeRowE_encodes hlo _ _, opcodeRowF_encodes hlo hd⟩

/-! ### What a row reads is its instruction's encoding -/

/-- The digit that a row was chosen by is `modrm[5:3]` of the operand it reads. -/
theorem digit_of_startsWithModrm {reg : BitVec 3} {operand : List Byte} (h : StartsWithModrm reg operand) (after : List Byte) :
    BitVec.ofNat 3 (regField ((operand ++ after).headD 0)) = reg := by
  obtain ⟨md, rm, disp, rfl, -⟩ := h
  simp

theorem wf_and_bytes {op : Byte} {operands after : List Byte} {i : Instr} (h : i.wf = true ∧ encode i = op :: operands) :
    i.wf = true ∧ op :: (operands ++ after) = encode i ++ after := ⟨h.1, by rw [h.2, List.cons_append]⟩

/-- A row that holds what the encoder writes, chosen by `modrm[5:3]` of the bytes it reads, answers an instruction of those bytes:
one case for each format. -/
theorem encode_of_read {op : Byte} {row : Row} {bs rest : List Byte} {i : Instr}
    (hrow : RowEncodes op (BitVec.ofNat 3 (regField (bs.headD 0))) row) (h : row.read bs = .instr i rest) :
    i.wf = true ∧ op :: bs = encode i ++ rest := by
  cases row <;> dsimp only [Row.read] at h
  case undefined | undocumented => cases h
  case o =>
    cases h
    exact wf_and_bytes hrow
  case second b i =>
    obtain ⟨b', after, rfl, hk⟩ := takeByte_eq_instr h
    split at hk
    case isTrue hb =>
      cases hk
      rw [hb]
      exact wf_and_bytes hrow
    case isFalse => cases hk
  case i8 =>
    obtain ⟨b, after, rfl, ⟨⟩⟩ := takeByte_eq_instr h
    exact wf_and_bytes (hrow b)
  case i16 =>
    obtain ⟨v, after, rfl, ⟨⟩⟩ := takeWord_eq_instr h
    exact wf_and_bytes (hrow v)
  case i16i8 =>
    obtain ⟨v, afterWord, rfl, hk⟩ := takeWord_eq_instr h
    obtain ⟨b, after, rfl, ⟨⟩⟩ := takeByte_eq_instr hk
    exact wf_and_bytes (hrow v b)
  case p32 =>
    obtain ⟨off, afterOff, rfl, hk⟩ := takeWord_eq_instr h
    obtain ⟨seg, after, rfl, ⟨⟩⟩ := takeWord_eq_instr hk
    exact wf_and_bytes (hrow off seg)
  case m8 =>
    obtain ⟨reg, rm, after, hrm, rfl, ⟨⟩⟩ := takeRm8_eq_instr h
    rw [digit_of_startsWithModrm (startsWithModrm_encRm8 reg hrm)] at hrow
    exact wf_and_bytes (hrow rm hrm)
  case m16 =>
    obtain ⟨reg, rm, after, hrm, rfl, ⟨⟩⟩ := takeRm16_eq_instr h
    rw [digit_of_startsWithModrm (startsWithModrm_encRm16 reg hrm)] at hrow
    exact wf_and_bytes (hrow rm hrm)
  case m =>
    obtain ⟨reg, m, after, hm, rfl, ⟨⟩⟩ := takeMemOnly_eq_instr h
    rw [digit_of_startsWithModrm (startsWithModrm_encMem reg hm)] at hrow
    exact wf_and_bytes (hrow m hm)
  case m8r =>
    obtain ⟨reg, rm, after, hrm, rfl, ⟨⟩⟩ := takeRm8_eq_instr h
    simpa using wf_and_bytes (hrow rm (reg8Of reg.toNat) hrm)
  case m16r =>
    obtain ⟨reg, rm, after, hrm, rfl, ⟨⟩⟩ := takeRm16_eq_instr h
    simpa using wf_and_bytes (hrow rm (reg16Of reg.toNat) hrm)
  case mr =>
    obtain ⟨reg, m, after, hm, rfl, ⟨⟩⟩ := takeMemOnly_eq_instr h
    simpa using wf_and_bytes (hrow (reg16Of reg.toNat) m hm)
  case m16d =>
    obtain ⟨reg, rm, after, hrm, rfl, ⟨⟩⟩ := takeRm16_eq_instr h
    simpa using wf_and_bytes (hrow reg rm hrm)
  case m8i8 =>
    obtain ⟨reg, rm, afterRm, hrm, rfl, hk⟩ := takeRm8_eq_instr h
    obtain ⟨b, after, rfl, ⟨⟩⟩ := takeByte_eq_instr hk
    rw [digit_of_startsWithModrm (startsWithModrm_encRm8 reg hrm)] at hrow
    simpa using wf_and_bytes (hrow rm b hrm)
  case m16i8 =>
    obtain ⟨reg, rm, afterRm, hrm, rfl, hk⟩ := takeRm16_eq_instr h
    obtain ⟨b, after, rfl, ⟨⟩⟩ := takeByte_eq_instr hk
    rw [digit_of_startsWithModrm (startsWithModrm_encRm16 reg hrm)] at hrow
    simpa using wf_and_bytes (hrow rm b hrm)
  case m16i16 =>
    obtain ⟨reg, rm, afterRm, hrm, rfl, hk⟩ := takeRm16_eq_instr h
    obtain ⟨v, after, rfl, ⟨⟩⟩ := takeWord_eq_instr hk
    rw [digit_of_startsWithModrm (startsWithModrm_encRm16 reg hrm)] at hrow
    simpa using wf_and_bytes (hrow rm v hrm)
  case m16ri8 =>
    obtain ⟨reg, rm, afterRm, hrm, rfl, hk⟩ := takeRm16_eq_instr h
    obtain ⟨b, after, rfl, ⟨⟩⟩ := takeByte_eq_instr hk
    simpa using wf_and_bytes (hrow (reg16Of reg.toNat) rm b hrm)
  case m16ri16 =>
    obtain ⟨reg, rm, afterRm, hrm, rfl, hk⟩ := takeRm16_eq_instr h
    obtain ⟨v, after, rfl, ⟨⟩⟩ := takeWord_eq_instr hk
    simpa using wf_and_bytes (hrow (reg16Of reg.toNat) rm v hrm)

/-- Settles O3: the row of the opcode byte reads the encoding of the instruction it answers. -/
theorem encodeOfDecode : Obligations.EncodeOfDecode := by
  intro bs rest i h
  cases bs with
  | nil => cases h
  | cons op operands =>
    rw [decode_cons] at h
    exact encode_of_read (opcodeRow_encodes op (regField_lt _)) h

/-! ### Undefined encodings (`30_encoding.md` R170) -/

theorem decode_undefined {op b : Byte} {d : Nat} (rest : List Byte) (hd : regField b = d) (hrow : opcodeRow op d = .undefined) :
    decode (op :: b :: rest) = .undefined := by
  rw [decode_cons, List.headD_cons, hd, hrow]; rfl

/-- An operand that must be memory is not given by a ModRM byte that names a register (R132). -/
theorem takeMemOnly_register {b : Byte} (h : 192 ≤ b.toNat) (rest : List Byte) (k : Nat → Mem → List Byte → Decoded) :
    takeMemOnly (b :: rest) k = .undefined := by
  have hmod : modField b = 3 := by have := b.isLt; unfold modField; omega
  simp [takeMemOnly, hmod]

theorem decode_mr_register {op b : Byte} {d : Nat} (rest : List Byte) (hd : regField b = d) (h : 192 ≤ b.toNat)
    {f : Reg16 → Mem → Instr} (hrow : opcodeRow op d = .mr f) : decode (op :: b :: rest) = .undefined := by
  rw [decode_cons, List.headD_cons, hd, hrow, Row.read, takeMemOnly_register h]

theorem decode_m_register {op b : Byte} {d : Nat} (rest : List Byte) (hd : regField b = d) (h : 192 ≤ b.toNat)
    {f : Mem → Instr} (hrow : opcodeRow op d = .m f) : decode (op :: b :: rest) = .undefined := by
  rw [decode_cons, List.headD_cons, hd, hrow, Row.read, takeMemOnly_register h]

/-- Settles O5: in each line of the table the row is undefined for the digits `d` that the line names, or demands an operand in
memory. -/
theorem undefinedEncodings : Obligations.UndefinedEncodings := by
  intro b rest
  generalize hd : b.toNat / 8 % 8 = d
  have hlt : d < 8 := hd ▸ regField_lt b
  have undef {op : Byte} := decode_undefined (op := op) rest hd
  simp only [List.forall_mem_cons, List.not_mem_nil, false_implies, implies_true, and_true]
  refine ⟨?opcode, ?noSReg, ?toCs, ?onlyZero, ?noShift, ?noUnary, ?incDec, ?seventh, ?memory, fun h => ?farMemory⟩
  case opcode => exact ⟨undef rfl, undef rfl, undef rfl, undef rfl, undef rfl, undef rfl, undef rfl, undef rfl⟩
  case noSReg =>
    have four (h : 4 ≤ d) : d = 4 ∨ d = 5 ∨ d = 6 ∨ d = 7 := by omega
    constructor <;> intro h <;> rcases four h with rfl | rfl | rfl | rfl <;> exact undef rfl
  case toCs => rintro rfl; exact undef rfl
  case onlyZero =>
    have seven (h : d ≠ 0) : d = 1 ∨ d = 2 ∨ d = 3 ∨ d = 4 ∨ d = 5 ∨ d = 6 ∨ d = 7 := by omega
    refine ⟨?_, ?_, ?_⟩ <;> intro h <;> rcases seven h with rfl | rfl | rfl | rfl | rfl | rfl | rfl <;> exact undef rfl
  case noShift =>
    refine ⟨?_, ?_, ?_, ?_, ?_, ?_⟩ <;> rintro rfl <;> exact undef rfl
  case noUnary => constructor <;> rintro rfl <;> exact undef rfl
  case incDec =>
    intro h
    have six : d = 2 ∨ d = 3 ∨ d = 4 ∨ d = 5 ∨ d = 6 ∨ d = 7 := by omega
    rcases six with rfl | rfl | rfl | rfl | rfl | rfl <;> exact undef rfl
  case seventh => rintro rfl; exact undef rfl
  case memory =>
    have register {op f} := decode_mr_register (op := op) (f := f) rest hd
    exact ⟨fun h => register h rfl, fun h => register h rfl, fun h => register h rfl, fun h => register h rfl⟩
  case farMemory => rintro (rfl | rfl) <;> exact decode_m_register rest hd h rfl

/-! ### Effective addresses (`30_encoding.md` R130, R131) -/

/-- The sum of R130's registers as natural numbers. -/
def baseNat (b : EaBase) (s : State) : Nat :=
  match b with
  | .bxSi => s.regs.bx.toNat + s.regs.si.toNat
  | .bxDi => s.regs.bx.toNat + s.regs.di.toNat
  | .bpSi => s.regs.bp.toNat + s.regs.si.toNat
  | .bpDi => s.regs.bp.toNat + s.regs.di.toNat
  | .si => s.regs.si.toNat
  | .di => s.regs.di.toNat
  | .bp => s.regs.bp.toNat
  | .bx => s.regs.bx.toNat

theorem baseSum_toNat (b : EaBase) (s : State) : (baseSum b s).toNat = baseNat b s % 2 ^ 16 := by
  cases b with
  | bxSi | bxDi | bpSi | bpDi => exact BitVec.toNat_add _ _
  | si | di | bp | bx => exact (Nat.mod_eq_of_lt (BitVec.isLt _)).symm

/-- A displacement is added modulo 2^16. -/
theorem baseSum_add_toNat (b : EaBase) (s : State) (v : Word) :
    (baseSum b s + v).toNat = (baseNat b s + v.toNat) % 2 ^ 16 := by
  rw [BitVec.toNat_add, baseSum_toNat, Nat.mod_add_mod]

/-- The value of the default segment of a base. -/
theorem sreg_baseSeg (b : EaBase) (s : State) :
    s.sreg (baseSeg b) = if b ∈ [EaBase.bpSi, .bpDi, .bp] then s.sregs.ss else s.sregs.ds := by cases b <;> rfl

theorem memSeg_override {s : State} {sr : SReg} (h : s.pfx.seg = some sr) (m : Mem) : memSeg m s = s.sreg sr := by
  simp [memSeg, overridableSeg, h]

theorem memSeg_default {s : State} (h : s.pfx.seg = none) (m : Mem) : memSeg m s = s.sreg (defaultSeg m) := by
  simp [memSeg, overridableSeg, h]

/-- Settles O23. -/
theorem effectiveAddress : Obligations.EffectiveAddress := by
  intro s a d x
  refine ⟨⟨rfl, fun b => ?_⟩, fun m => ?_⟩
  · show _ = baseNat b s % _ ∧ _ = (baseNat b s + _) % _ ∧ _ = (baseNat b s + _) % _
    exact ⟨baseSum_toNat b s, baseSum_add_toNat b s _, baseSum_add_toNat b s _⟩
  · cases hseg : s.pfx.seg with
    | some sr => exact memSeg_override hseg m
    | none =>
      rw [memSeg_default hseg]
      cases m with
      | direct a => rfl
      | plain b | disp8 b d | disp16 b d => exact sreg_baseSeg b s

/-! ### Words written out -/

/-- Settles O4: the decoder runs. -/
theorem decodeWords : Obligations.DecodeWords := ⟨rfl, rfl, rfl, rfl, rfl, rfl, rfl, rfl, rfl, rfl, rfl⟩

end Sys2Proof.Proofs
end

section
/-! SUPPORT. Proof that every step keeps the invariant (`30_encoding.md` R140): every instruction keeps memory in canonical form, a
repeated string has elements left, and the end of a step drops the prefixes of what is complete. -/

namespace Sys2Proof.Proofs

open Sys2Proof Sys2Proof.Machine Sys2Proof.Safety Sys2Proof.Laws

/-! ### The shared operations keep memory in canonical form -/

/-- The meaning leaves memory in canonical form (`20_memory.md` R70). -/
abbrev Canonical (x : Except Stop State) : Prop := Answers x fun t => Memory.wf t.mem

/-- The same for a computation that also answers a value. -/
abbrev CanonicalRead {α : Type} (x : Except Stop (α × State)) : Prop := Answers x fun p => Memory.wf p.2.mem

section Operations

variable {s : State}

theorem canonical_ok (hm : Memory.wf s.mem) : Canonical (.ok s) := answers_ok hm

/-- What is left of a computation that only read, or changed no memory. -/
theorem wf_of_mem_eq {t : State} (hm : Memory.wf s.mem) (h : t.mem = s.mem) : Memory.wf t.mem := h ▸ hm

theorem wf_writeByte (seg off : Word) (v : Byte) (hm : Memory.wf s.mem) : Memory.wf (writeByte seg off v s).mem :=
  wf_storeByte v hm (phys_lt seg off)

theorem wf_setRm8 (rm : Rm8) (v : Byte) (hm : Memory.wf s.mem) : Memory.wf (setRm8 rm v s).mem := by
  cases rm with
  | reg r => exact wf_of_mem_eq hm (setReg8_mem s r v)
  | mem m => exact wf_writeByte _ _ v hm

@[simp] theorem getRm8_mem (rm : Rm8) : (getRm8 rm s).2.mem = s.mem := by rw [getRm8_eq]; rfl

theorem writeWord_canonical (seg off v : Word) (hm : Memory.wf s.mem) : Canonical (writeWord seg off v s) := by
  intro t ht
  obtain ⟨-, rfl⟩ := writeWord_eq_ok.mp ht
  exact wf_storeWord v hm (phys_lt seg off)

theorem readWord_canonical (seg off : Word) (hm : Memory.wf s.mem) : CanonicalRead (readWord seg off s) :=
  answers_ite answers_error (answers_ok hm)

theorem readPointer_canonical (seg off : Word) (hm : Memory.wf s.mem) :
    Answers (readPointer seg off s) fun p => Memory.wf p.2.2.mem := answers_ite answers_error (answers_ok hm)

theorem push_canonical (v : Word) (hm : Memory.wf s.mem) : Canonical (push v s) :=
  writeWord_canonical _ _ _ (wf_of_mem_eq hm (setReg16_mem _ _ _))

theorem pop_canonical (hm : Memory.wf s.mem) : CanonicalRead (pop s) :=
  answers_bind (readWord_canonical _ _ hm) fun _ hu => answers_ok (wf_of_mem_eq hu (setReg16_mem _ _ _))

theorem getRm16_canonical (rm : Rm16) (hm : Memory.wf s.mem) : CanonicalRead (getRm16 rm s) := by
  cases rm with
  | reg r => exact answers_ok hm
  | mem m => exact readWord_canonical _ _ hm

theorem setRm16_canonical (rm : Rm16) (v : Word) (hm : Memory.wf s.mem) : Canonical (setRm16 rm v s) := by
  cases rm with
  | reg r => exact answers_ok (wf_of_mem_eq hm (setReg16_mem s r v))
  | mem m => exact writeWord_canonical _ _ _ hm

theorem ioReadByte_canonical (port : Word) (hm : Memory.wf s.mem) : CanonicalRead (ioReadByte port s) :=
  answers_bind (checkPort_answers _ _) fun _ _ => answers_ok hm

theorem ioReadWord_canonical (port : Word) (hm : Memory.wf s.mem) : CanonicalRead (ioReadWord port s) :=
  answers_bind (checkPort_answers _ _) fun _ _ => answers_ok hm

theorem ioWriteByte_canonical (port : Word) (v : Byte) (hm : Memory.wf s.mem) : Canonical (ioWriteByte port v s) :=
  answers_bind (checkPort_answers _ _) fun _ _ => answers_ok hm

theorem ioWriteWord_canonical (port v : Word) (hm : Memory.wf s.mem) : Canonical (ioWriteWord port v s) :=
  answers_bind (checkPort_answers _ _) fun _ _ => answers_ok hm

theorem enter_canonical (n : Byte) (hm : Memory.wf s.mem) : Canonical (enter n s) := by
  intro t ht
  obtain ⟨-, a, b, c, hpsw, hcs, hip, rfl⟩ := enter_eq_ok.mp ht
  have ha : Memory.wf a.mem := push_canonical (s := State.nextFree (State.logEvents s _)) _ hm a hpsw
  have hb : Memory.wf b.mem := push_canonical (s := a.setFlags { a.flags with tf := false, ifl := false }) _ ha b hcs
  exact push_canonical _ hb c hip

/-! ### The shapes of instruction that write memory -/

theorem wf_getRm8 (rm : Rm8) (hm : Memory.wf s.mem) : Memory.wf (getRm8 rm s).2.mem := wf_of_mem_eq hm (getRm8_mem rm)

theorem wf_binop8With (op : AluOp) (dst : Rm8) (b : Byte) (hm : Memory.wf s.mem) : Memory.wf (binop8With op dst b s).mem := by
  have hread := wf_getRm8 dst hm
  unfold binop8With
  split
  · exact wf_setRm8 _ _ hread
  · exact hread

theorem binop8_canonical (op : AluOp) (dst src : Rm8) (hm : Memory.wf s.mem) : Canonical (binop8 op dst src s) :=
  answers_ok (wf_binop8With _ _ _ (wf_getRm8 src hm))

theorem binop16With_canonical (op : AluOp) (dst : Rm16) (b : Word) (hm : Memory.wf s.mem) : Canonical (binop16With op dst b s) :=
  answers_bind (getRm16_canonical dst hm) fun _ hu => answers_ite (setRm16_canonical (s := State.nextFree _) _ _ hu) (answers_ok hu)

theorem binop16_canonical (op : AluOp) (dst src : Rm16) (hm : Memory.wf s.mem) : Canonical (binop16 op dst src s) :=
  answers_bind (getRm16_canonical src hm) fun _ hu => binop16With_canonical _ _ _ hu

theorem shift8_canonical (op : ShiftOp) (rm : Rm8) (n : Byte) (hm : Memory.wf s.mem) : Canonical (shift8 op rm n s) :=
  answers_ite (answers_ok hm) (answers_ok (wf_setRm8 (s := State.setFlags (getRm8 rm s).2 _) rm _ (wf_getRm8 rm hm)))

theorem shift16_canonical (op : ShiftOp) (rm : Rm16) (n : Byte) (hm : Memory.wf s.mem) : Canonical (shift16 op rm n s) :=
  answers_ite (answers_ok hm) <| answers_bind (getRm16_canonical rm hm) fun _ hu =>
    answers_bind (setRm16_canonical (s := State.setFlags _ _) _ _ hu) fun _ ht => answers_ok ht

theorem incDec16_canonical (op : StepOp) (rm : Rm16) (hm : Memory.wf s.mem) : Canonical (incDec16 op rm s) :=
  answers_bind (getRm16_canonical rm hm) fun _ hu => setRm16_canonical (s := State.setFlags _ _) _ _ hu

theorem mov16_canonical (dst src : Rm16) (hm : Memory.wf s.mem) : Canonical (mov16 dst src s) :=
  answers_bind (getRm16_canonical src hm) fun _ hu => setRm16_canonical _ _ hu

theorem xchg16_canonical (rm : Rm16) (r : Reg16) (hm : Memory.wf s.mem) : Canonical (xchg16 rm r s) :=
  answers_bind (getRm16_canonical rm hm) fun _ hu => answers_bind (setRm16_canonical _ _ hu) fun _ ht =>
    answers_ok (wf_of_mem_eq ht (setReg16_mem _ _ _))

/-- The divide error, or the quotient and the remainder in two registers. -/
theorem divide_canonical {p : Prop} [Decidable p] {u t : State} (hu : Memory.wf u.mem) (ht : t.mem = u.mem) :
    Canonical (if p then divideError u else .ok t) :=
  answers_ite (enter_canonical (s := State.setIp _ _) 0 hu) (answers_ok (wf_of_mem_eq hu ht))

/-! ### The stack -/

theorem pushRm_canonical (rm : Rm16) (hm : Memory.wf s.mem) : Canonical (pushRm rm s) := by
  have hpushed : CanonicalRead (pushedRm rm s) := by
    unfold pushedRm
    split
    · exact answers_ok hm
    · exact getRm16_canonical rm hm
  exact answers_bind hpushed fun _ hu => push_canonical (s := State.nextFree _) _ hu

theorem pushList_canonical (vs : List Word) (hm : Memory.wf s.mem) : Canonical (pushList vs s) := by
  induction vs generalizing s with
  | nil => exact answers_ok hm
  | cons v vs ih => exact answers_bind (push_canonical v hm) fun _ hu => ih hu

/-- A pop, and then what goes on from the state it leaves. -/
theorem pop_bind_canonical {f : Word × State → Except Stop State} (hm : Memory.wf s.mem)
    (hf : ∀ p : Word × State, Memory.wf p.2.mem → Canonical (f p)) : Canonical (pop s >>= f) := answers_bind (pop_canonical hm) hf

theorem popAll_canonical (hm : Memory.wf s.mem) : Canonical (popAll s) :=
  pop_bind_canonical hm fun _ hdi => pop_bind_canonical (s := State.setReg16 _ .di _) hdi fun _ hsi =>
    pop_bind_canonical (s := State.setReg16 _ .si _) hsi fun _ hbp =>
      pop_bind_canonical (s := State.setReg16 _ .bp _) hbp fun _ hsp => pop_bind_canonical hsp fun _ hbx =>
        pop_bind_canonical (s := State.setReg16 _ .bx _) hbx fun _ hdx =>
          pop_bind_canonical (s := State.setReg16 _ .dx _) hdx fun _ hcx =>
            pop_bind_canonical (s := State.setReg16 _ .cx _) hcx fun _ hax => answers_ok hax

theorem copyFrames_canonical (n : Nat) (hm : Memory.wf s.mem) : Canonical (copyFrames n s) := by
  induction n generalizing s with
  | zero => exact answers_ok hm
  | succ n ih =>
    exact answers_bind (readWord_canonical (s := State.setReg16 s .bp _) _ _ hm) fun _ hu =>
      answers_bind (push_canonical _ hu) fun _ ht => ih ht

theorem enterFrame_canonical (v : Word) (l : Byte) (hm : Memory.wf s.mem) : Canonical (enterFrame v l s) := by
  have display (level : Nat) (frame : Word) {u : State} (hu : Memory.wf u.mem) : Canonical (pushDisplay level frame u) :=
    answers_ite (answers_ok hu) (answers_bind (copyFrames_canonical _ hu) fun _ ht => push_canonical _ ht)
  exact answers_bind (push_canonical _ hm) fun _ hu => answers_bind (display _ _ hu) fun _ ht => answers_ok ht

theorem callNearTo_canonical (target : Word) (hm : Memory.wf s.mem) : Canonical (callNearTo target s) :=
  answers_bind (push_canonical _ hm) fun _ hu => answers_ok hu

theorem callFarTo_canonical (seg off : Word) (hm : Memory.wf s.mem) : Canonical (callFarTo seg off s) :=
  answers_bind (push_canonical _ hm) fun _ hu => answers_bind (push_canonical _ hu) fun _ ht => answers_ok ht

theorem retFarTo_canonical (v : Word) (hm : Memory.wf s.mem) : Canonical (retFarTo v s) :=
  pop_bind_canonical hm fun _ hu => pop_bind_canonical hu fun _ ht => answers_ok ht

theorem returnFromInterrupt_canonical (hm : Memory.wf s.mem) : Canonical (returnFromInterrupt s) :=
  pop_bind_canonical hm fun _ hip => pop_bind_canonical hip fun _ hcs => pop_bind_canonical hcs fun _ ht => answers_ok ht

theorem popSReg_canonical (sr : SReg) (hm : Memory.wf s.mem) : Canonical (popSReg sr s) :=
  pop_bind_canonical hm fun _ hu => answers_ok (wf_of_mem_eq hu (setSReg_mem _ _ _))

theorem loadPointer_canonical (sr : SReg) (r : Reg16) (m : Mem) (hm : Memory.wf s.mem) : Canonical (loadPointer sr r m s) :=
  answers_bind (readPointer_canonical _ _ hm) fun _ hu => answers_ok (by simpa using hu)

theorem boundOp_canonical (r : Reg16) (m : Mem) (hm : Memory.wf s.mem) : Canonical (boundOp r m s) :=
  answers_bind (readWord_canonical _ _ hm) fun _ hu => answers_bind (readWord_canonical _ _ hu) fun _ ht =>
    answers_ite (enter_canonical (s := State.setIp _ _) 5 ht) (answers_ok ht)

/-! ### Strings -/

theorem afterElement_mem (self : Instr) (compare : Bool) (r : Rep) (s : State) : (afterElement self compare r s).mem = s.mem := by
  simp only [afterElement]
  split <;> rfl

theorem stringStep_canonical (self : Instr) (compare : Bool) {body : State → Except Stop State} (hm : Memory.wf s.mem)
    (hbody : Canonical (body s)) : Canonical (stringStep self compare body s) := by
  unfold stringStep
  split
  · exact hbody
  · exact answers_ite answers_error (answers_ite (answers_ok hm) (answers_bind hbody fun t ht =>
      answers_ok (wf_of_mem_eq ht (afterElement_mem _ _ _ t))))

theorem movs16_canonical (hm : Memory.wf s.mem) : Canonical (movs16 s) :=
  answers_bind (readWord_canonical _ _ hm) fun _ hu => answers_bind (writeWord_canonical _ _ _ hu) fun _ ht => answers_ok ht

theorem cmps16_canonical (hm : Memory.wf s.mem) : Canonical (cmps16 s) :=
  answers_bind (readWord_canonical _ _ hm) fun _ hu =>
    answers_bind (readWord_canonical (s := State.nextFree _) _ _ hu) fun _ ht => answers_ok ht

theorem ins8_canonical (hm : Memory.wf s.mem) : Canonical (ins8 s) :=
  answers_bind (ioReadByte_canonical _ hm) fun _ hu => answers_ok (wf_writeByte _ _ _ hu)

theorem ins16_canonical (hm : Memory.wf s.mem) : Canonical (ins16 s) :=
  answers_bind (ioReadWord_canonical _ hm) fun _ hu => answers_bind (writeWord_canonical _ _ _ hu) fun _ ht => answers_ok ht

theorem outs16_canonical (hm : Memory.wf s.mem) : Canonical (outs16 s) :=
  answers_bind (readWord_canonical _ _ hm) fun _ hu => answers_bind (ioWriteWord_canonical _ _ hu) fun _ ht => answers_ok ht

end Operations

/-! ### Every instruction keeps memory in canonical form -/

theorem wf_of_canonical {t : State} {x : Except Stop State} (hx : outcome x = .next t) (h : Canonical x) : Memory.wf t.mem :=
  h t (outcome_eq_next.mp hx)

/-- One group of cases for each shape of meaning, as in `exec_controlEffect`. -/
theorem exec_mem_wf {i : Instr} {s t : State} (hm : Memory.wf s.mem) (h : exec i s = .next t) : Memory.wf t.mem := by
  have hread8 (rm : Rm8) := wf_getRm8 rm hm
  have hread16 (rm : Rm16) := getRm16_canonical rm hm
  cases i <;> dsimp only [exec] at h
  case addRm8R8 | addR8Rm8 | orRm8R8 | orR8Rm8 | adcRm8R8 | adcR8Rm8 | sbbRm8R8 | sbbR8Rm8 | andRm8R8 | andR8Rm8 | subRm8R8
    | subR8Rm8 | xorRm8R8 | xorR8Rm8 | cmpRm8R8 | cmpR8Rm8 | testRm8R8 => exact wf_of_canonical h (binop8_canonical _ _ _ hm)
  case addRm16R16 | addR16Rm16 | orRm16R16 | orR16Rm16 | adcRm16R16 | adcR16Rm16 | sbbRm16R16 | sbbR16Rm16 | andRm16R16
    | andR16Rm16 | subRm16R16 | subR16Rm16 | xorRm16R16 | xorR16Rm16 | cmpRm16R16 | cmpR16Rm16 | testRm16R16
    => exact wf_of_canonical h (binop16_canonical _ _ _ hm)
  case addAlImm8 | orAlImm8 | adcAlImm8 | sbbAlImm8 | andAlImm8 | subAlImm8 | xorAlImm8 | cmpAlImm8 | addRm8Imm8 | orRm8Imm8
    | adcRm8Imm8 | sbbRm8Imm8 | andRm8Imm8 | subRm8Imm8 | xorRm8Imm8 | cmpRm8Imm8 | testAlImm8 | testRm8Imm8
    => exact wf_of_canonical h (answers_ok (wf_binop8With _ _ _ hm))
  case addAxImm16 | orAxImm16 | adcAxImm16 | sbbAxImm16 | andAxImm16 | subAxImm16 | xorAxImm16 | cmpAxImm16 | addRm16Imm16
    | addRm16Imm8 | orRm16Imm16 | adcRm16Imm16 | adcRm16Imm8 | sbbRm16Imm16 | sbbRm16Imm8 | andRm16Imm16 | subRm16Imm16
    | subRm16Imm8 | xorRm16Imm16 | cmpRm16Imm16 | cmpRm16Imm8 | testAxImm16 | testRm16Imm16
    => exact wf_of_canonical h (binop16With_canonical _ _ _ hm)
  case rolRm8Imm8 | rolRm8One | rolRm8Cl | rorRm8Imm8 | rorRm8One | rorRm8Cl | rclRm8Imm8 | rclRm8One | rclRm8Cl | rcrRm8Imm8
    | rcrRm8One | rcrRm8Cl | shlRm8Imm8 | shlRm8One | shlRm8Cl | shrRm8Imm8 | shrRm8One | shrRm8Cl | sarRm8Imm8 | sarRm8One
    | sarRm8Cl => exact wf_of_canonical h (shift8_canonical _ _ _ hm)
  case rolRm16Imm8 | rolRm16One | rolRm16Cl | rorRm16Imm8 | rorRm16One | rorRm16Cl | rclRm16Imm8 | rclRm16One | rclRm16Cl
    | rcrRm16Imm8 | rcrRm16One | rcrRm16Cl | shlRm16Imm8 | shlRm16One | shlRm16Cl | shrRm16Imm8 | shrRm16One | shrRm16Cl
    | sarRm16Imm8 | sarRm16One | sarRm16Cl => exact wf_of_canonical h (shift16_canonical _ _ _ hm)
  case incRm8 rm | decRm8 rm | negRm8 rm =>
    exact wf_of_canonical h (answers_ok (wf_setRm8 (s := State.setFlags _ _) rm _ (hread8 rm)))
  case notRm8 rm => exact wf_of_canonical h (answers_ok (wf_setRm8 rm _ (hread8 rm)))
  case incR16 | decR16 | incRm16 | decRm16 => exact wf_of_canonical h (incDec16_canonical _ _ hm)
  case negRm16 rm =>
    exact wf_of_canonical h (answers_bind (hread16 rm) fun _ hu => setRm16_canonical (s := State.setFlags _ _) _ _ hu)
  case notRm16 rm => exact wf_of_canonical h (answers_bind (hread16 rm) fun _ hu => setRm16_canonical _ _ hu)
  case mulRm8 rm | imulRm8 rm => exact wf_of_canonical h (answers_ok (hread8 rm))
  case mulRm16 rm | imulRm16 rm => exact wf_of_canonical h (answers_bind (hread16 rm) fun _ hu => answers_ok hu)
  case imulR16Rm16Imm16 r rm _ | imulR16Rm16Imm8 r rm _ =>
    exact wf_of_canonical h (answers_bind (hread16 rm) fun _ hu => answers_ok (by simpa using hu))
  case divRm8 rm | idivRm8 rm => exact wf_of_canonical h (divide_canonical (u := State.divFlags _) (hread8 rm) rfl)
  case divRm16 rm | idivRm16 rm =>
    exact wf_of_canonical h (answers_bind (hread16 rm) fun _ hu => divide_canonical (u := State.divFlags _) hu rfl)
  case daa | das | aaa | aas | aam | aad | cbw | cwd | lahf | sahf | xlat | jmpNear | jmpShort | jmpFar | nop | cmc | clc | stc
    | cli | sti | cld | std | hlt | segEs | segCs | segSs | segDs | lock => exact wf_of_canonical h (answers_ok hm)
  case movRm8R8 | movR8Rm8 | movAlMoffs8 | movMoffs8Al => exact wf_of_canonical h (answers_ok (wf_setRm8 _ _ (wf_getRm8 _ hm)))
  case movRm16R16 | movR16Rm16 | movAxMoffs16 | movMoffs16Ax => exact wf_of_canonical h (mov16_canonical _ _ hm)
  case movRm8Imm8 => exact wf_of_canonical h (answers_ok (wf_setRm8 _ _ hm))
  case movRm16Sreg | movRm16Imm16 => exact wf_of_canonical h (setRm16_canonical _ _ hm)
  case lea | movR8Imm8 | movR16Imm16 => exact wf_of_canonical h (answers_ok (by simpa using hm))
  case movSregRm16 sr rm =>
    exact wf_of_canonical h (answers_bind (hread16 rm) fun _ hu => answers_ok (wf_of_mem_eq hu (setSReg_mem _ _ _)))
  case pushR16 | pushImm16 | pushImm8 | pushEs | pushCs | pushSs | pushDs => exact wf_of_canonical h (push_canonical _ hm)
  case pushf => exact wf_of_canonical h (push_canonical (s := State.nextFree _) _ hm)
  case pushRm16 => exact wf_of_canonical h (pushRm_canonical _ hm)
  case pusha => exact wf_of_canonical h (pushList_canonical _ hm)
  case popR16 => exact wf_of_canonical h (pop_bind_canonical hm fun _ hu => answers_ok (wf_of_mem_eq hu (setReg16_mem _ _ _)))
  case popRm16 => exact wf_of_canonical h (pop_bind_canonical hm fun _ hu => setRm16_canonical _ _ hu)
  case popEs | popSs | popDs => exact wf_of_canonical h (popSReg_canonical _ hm)
  case popf => exact wf_of_canonical h (pop_bind_canonical hm fun _ hu => answers_ok hu)
  case popa => exact wf_of_canonical h (popAll_canonical hm)
  case leave => exact wf_of_canonical h (pop_bind_canonical (s := State.setReg16 _ .sp _) hm fun _ hu => answers_ok hu)
  case xchgRm8R8 rm _ =>
    exact wf_of_canonical h (answers_ok (wf_of_mem_eq (wf_setRm8 rm _ (hread8 rm)) (setReg8_mem _ _ _)))
  case xchgRm16R16 | xchgAxR16 => exact wf_of_canonical h (xchg16_canonical _ _ hm)
  case inAlImm8 | inAlDx => exact wf_of_canonical h (answers_bind (ioReadByte_canonical _ hm) fun _ hu => answers_ok hu)
  case inAxImm8 | inAxDx => exact wf_of_canonical h (answers_bind (ioReadWord_canonical _ hm) fun _ hu => answers_ok hu)
  case outImm8Al | outDxAl => exact wf_of_canonical h (ioWriteByte_canonical _ _ hm)
  case outImm8Ax | outDxAx => exact wf_of_canonical h (ioWriteWord_canonical _ _ hm)
  case les | lds => exact wf_of_canonical h (loadPointer_canonical _ _ _ hm)
  case enter => exact wf_of_canonical h (enterFrame_canonical _ _ hm)
  case jo | jno | jb | jae | je | jne | jbe | ja | js | jns | jp | jnp | jl | jge | jle | jg | jcxz | loopne | loope | loop
    => exact wf_of_canonical h (answers_ok (by split <;> exact hm))
  case jmpRm16 rm => exact wf_of_canonical h (answers_bind (hread16 rm) fun _ hu => answers_ok hu)
  case jmpMem32 => exact wf_of_canonical h (answers_bind (readPointer_canonical _ _ hm) fun _ hu => answers_ok hu)
  case callNear => exact wf_of_canonical h (callNearTo_canonical _ hm)
  case callRm16 rm => exact wf_of_canonical h (answers_bind (hread16 rm) fun _ hu => callNearTo_canonical _ hu)
  case callFar => exact wf_of_canonical h (callFarTo_canonical _ _ hm)
  case callMem32 => exact wf_of_canonical h (answers_bind (readPointer_canonical _ _ hm) fun _ hu => callFarTo_canonical _ _ hu)
  case retNear | retNearImm16 => exact wf_of_canonical h (pop_bind_canonical hm fun _ hu => answers_ok hu)
  case retFar | retFarImm16 => exact wf_of_canonical h (retFarTo_canonical _ hm)
  case int3 | intImm8 => exact wf_of_canonical h (enter_canonical _ hm)
  case into => exact wf_of_canonical h (answers_ite (enter_canonical _ hm) (answers_ok hm))
  case iret => exact wf_of_canonical h (returnFromInterrupt_canonical hm)
  case bound => exact wf_of_canonical h (boundOp_canonical _ _ hm)
  case esc => exact wf_of_canonical h (answers_ite (enter_canonical (s := State.setIp _ _) _ hm) answers_error)
  case wait => exact wf_of_canonical h (answers_ite (answers_ok hm) (answers_ok hm))
  case repne | rep => exact wf_of_canonical h (answers_ite answers_error (answers_ok hm))
  case movsb | stosb => exact wf_of_canonical h (stringStep_canonical _ _ hm (answers_ok (wf_writeByte _ _ _ hm)))
  case cmpsb | scasb | lodsb => exact wf_of_canonical h (stringStep_canonical _ _ hm (answers_ok hm))
  case movsw => exact wf_of_canonical h (stringStep_canonical _ _ hm (movs16_canonical hm))
  case cmpsw => exact wf_of_canonical h (stringStep_canonical _ _ hm (cmps16_canonical hm))
  case scasw | lodsw =>
    exact wf_of_canonical h (stringStep_canonical _ _ hm (answers_bind (readWord_canonical _ _ hm) fun _ hu => answers_ok hu))
  case stosw =>
    exact wf_of_canonical h (stringStep_canonical _ _ hm (answers_bind (writeWord_canonical _ _ _ hm) fun _ hu => answers_ok hu))
  case insb => exact wf_of_canonical h (stringStep_canonical _ _ hm (ins8_canonical hm))
  case insw => exact wf_of_canonical h (stringStep_canonical _ _ hm (ins16_canonical hm))
  case outsb =>
    exact wf_of_canonical h (stringStep_canonical _ _ hm (answers_bind (ioWriteByte_canonical _ _ hm) fun _ hu => answers_ok hu))
  case outsw => exact wf_of_canonical h (stringStep_canonical _ _ hm (outs16_canonical hm))

/-! ### A repeated string in progress (`43_string.md` R361, R362) -/

/-- The prefixes ask for a repetition, elements are left, and IP is at the byte before the opcode. -/
def AtPrefix (s : State) : Prop := s.pfx.rep.isSome = true ∧ s.regs.cx ≠ 0 ∧ s.ip = s.opIp - 1

/-- After an element the string is over, or elements are left and IP is back at the byte before the opcode. -/
theorem afterElement_repeating {self : Instr} {compare : Bool} {r : Rep} {s t : State} (hs : s.repeating = none)
    (ht : afterElement self compare r s = t) : t.repeating = none ∨ t.regs.cx ≠ 0 ∧ t.ip = t.opIp - 1 := by
  subst ht
  simp only [afterElement]
  split
  case isTrue => exact .inl hs
  case isFalse hgoes => exact .inr ⟨fun hcx => hgoes (.inl hcx), rfl⟩

theorem pfx_of_control_eq {s t : State} (h : control t = control s) : t.pfx = s.pfx := congrArg Control.pfx h

theorem repeating_of_control_eq {s t : State} (h : control t = control s) : t.repeating = s.repeating :=
  congrArg Control.repeating h

theorem afterElement_pfx (self : Instr) (compare : Bool) (r : Rep) (s : State) : (afterElement self compare r s).pfx = s.pfx := by
  simp only [afterElement]
  split <;> rfl

theorem stringStep_atPrefix (self : Instr) (compare : Bool) {body : State → Except Stop State} (hbody : ∀ s, Keeps s (body s))
    {s : State} (hs : s.repeating = none) : Answers (stringStep self compare body s) fun t => t.repeating = none ∨ AtPrefix t := by
  unfold stringStep
  split
  case h_1 => exact fun t ht => .inl ((repeating_of_control_eq (hbody s t ht)).trans hs)
  case h_2 r hrep =>
    refine answers_ite answers_error (answers_ite (answers_ok (.inl hs)) (answers_bind (hbody s) fun t ht => answers_ok ?_))
    have hpfx : (afterElement self compare r t).pfx.rep = some r := by rw [afterElement_pfx, pfx_of_control_eq ht, hrep]
    refine (afterElement_repeating ((repeating_of_control_eq ht).trans hs) rfl).imp_right fun ⟨hcx, hip⟩ => ⟨?_, hcx, hip⟩
    rw [hpfx]; rfl

/-- After a string instruction there is none in progress, or one that goes on. -/
theorem exec_string_atPrefix {i : Instr} (hi : isString i) {s t : State} (h : exec i s = .next t) (hs : s.repeating = none) :
    t.repeating = none ∨ AtPrefix t := by
  have element {self compare body} (hx : outcome (stringStep self compare body s) = .next t) (hbody : ∀ s, Keeps s (body s)) :=
    stringStep_atPrefix self compare hbody hs t (outcome_eq_next.mp hx)
  simp only [isString, List.mem_cons, List.not_mem_nil, or_false] at hi
  rcases hi with rfl | rfl | rfl | rfl | rfl | rfl | rfl | rfl | rfl | rfl | rfl | rfl | rfl | rfl
  · exact element h movs8_keeps
  · exact element h movs16_keeps
  · exact element h cmps8_keeps
  · exact element h cmps16_keeps
  · exact element h scas8_keeps
  · exact element h scas16_keeps
  · exact element h lods8_keeps
  · exact element h lods16_keeps
  · exact element h stos8_keeps
  · exact element h stos16_keeps
  · exact element h ins8_keeps
  · exact element h ins16_keeps
  · exact element h outs8_keeps
  · exact element h outs16_keeps

/-- Of the effects on the control part only an iteration leaves a string in progress: that of the instruction, whose other control
fields are the ones it began with. -/
theorem ControlEffect.isString_of_repeating {i j : Instr} {c d : Control} (effect : ControlEffect i c d) (hc : c.repeating = none)
    (hd : d.repeating = some j) : i = j ∧ isString i ∧ d.inPrefix = c.inPrefix ∧ d.halted = c.halted := by
  cases effect with
  | keep | farTransfer | iret | popf | popSReg | movSReg | sti | hlt | prefixByte | waits =>
    exact absurd (hc.symm.trans hd) nofun
  | entry => exact absurd hd nofun
  | iterates hi => exact ⟨Option.some.inj hd, hi, rfl, rfl⟩

/-- An instruction that began with no prefixes pending and the machine running leaves it halted or prefixes pending, not both. -/
theorem ControlEffect.halted_inPrefix {i : Instr} {c d : Control} (effect : ControlEffect i c d) (hp : c.inPrefix = false)
    (hh : c.halted = false) (hd : d.halted = true) : d.inPrefix = false := by
  cases effect with
  | prefixByte => exact absurd (hh.symm.trans hd) Bool.false_ne_true
  | entry => rfl
  | keep | farTransfer | iret | popf | popSReg | movSReg | sti | hlt | waits | iterates => exact hp

/-! ### The end of a step -/

/-- The invariant, without what the end of a step makes true of the prefixes. -/
structure InvBeforeRetire (s : State) : Prop where
  memory : Memory.wf s.mem
  repeated : RepeatOk s
  halt : HaltOk s

/-- A state in which no instruction is in progress. -/
theorem inv_of_idle {s : State} (hm : Memory.wf s.mem) (hpfx : s.pfx = Prefixes.none) (hrep : s.repeating = none)
    (hhalt : s.halted = false) : Inv s where
  memory := hm
  prefixes _ _ := hpfx
  repeated _ h := absurd (hrep.symm.trans h) nofun
  halt h := absurd (hhalt.symm.trans h) Bool.false_ne_true

theorem enter_inv {n : Byte} {s t : State} (hm : Memory.wf s.mem) (h : enter n s = .ok t) : Inv t := by
  have hmem : Memory.wf t.mem := enter_canonical n hm t h
  obtain ⟨seg, hcontrol⟩ := enter_control h
  exact inv_of_idle hmem (congrArg Control.pfx hcontrol) (congrArg Control.repeating hcontrol) (congrArg Control.halted hcontrol)

theorem takeInterrupt_inv {d : Due} {s t : State} (hm : Memory.wf s.mem) (h : takeInterrupt d s = .ok t) : Inv t := by
  cases d with
  | nmi => exact enter_inv (s := { s with nmiPending := false }) hm h
  | intr n => exact enter_inv (s := State.logEvents { s with intr := none } _) hm h

theorem takeDue_mem_wf {s : State} (hm : Memory.wf s.mem) : Canonical (takeDue s) := by
  unfold takeDue
  split
  · exact fun t ht => (takeInterrupt_inv hm ht).memory
  · exact answers_ok hm

theorem stepTrap_inv {tf0 : Bool} {s t : State} (hs : Inv s) (h : stepTrap tf0 s = .ok t) : Inv t := by
  unfold stepTrap at h
  split at h
  · obtain ⟨u, hu, h⟩ := bind_eq_ok.mp h
    exact enter_inv (takeDue_mem_wf hs.memory u hu) h
  · exact Except.ok.inj h ▸ hs

/-- An instruction that is complete takes its prefixes with it, and one in progress keeps all it has. -/
theorem retire_inv {s : State} (h : InvBeforeRetire s) : Inv (retire s) := by
  obtain ⟨hm, hrep, hhalt⟩ := h
  unfold retire
  split
  case isTrue hprogress =>
    refine ⟨hm, fun hp hr => ?_, hrep, hhalt⟩
    rw [hp, hr] at hprogress
    exact absurd hprogress Bool.false_ne_true
  case isFalse hcomplete =>
    obtain ⟨-, hnone⟩ : s.inPrefix = false ∧ s.repeating = none := by simpa using hcomplete
    exact ⟨hm, fun _ _ => rfl, fun i hi => absurd (hnone.symm.trans hi) nofun, hhalt⟩

theorem finishState_inv {tf0 : Bool} {s t : State} (hs : InvBeforeRetire s) (h : finishState tf0 s = .ok t) : Inv t := by
  obtain ⟨hm, hrep, hhalt⟩ := hs
  unfold finishState at h
  split at h
  case h_1 => exact stepTrap_inv (retire_inv ⟨hm, hrep, hhalt⟩) h
  case h_2 e rest henv =>
    split at h
    · rw [← Except.ok.inj h]
      exact inv_of_idle hm rfl rfl rfl
    · exact stepTrap_inv (retire_inv (s := State.setPins { s with env := rest } e) ⟨hm, hrep, hhalt⟩) h

theorem invBeforeRetire_of_inv {s : State} (h : Inv s) : InvBeforeRetire s := ⟨h.memory, h.repeated, h.halt⟩

/-! ### The step -/

/-- An instruction from a running machine between two instructions, or between two iterations. -/
theorem exec_invBeforeRetire {i : Instr} {s t : State} (hm : Memory.wf s.mem) (hrep : s.repeating = none)
    (hprefix : s.inPrefix = false) (hhalt : s.halted = false) (h : exec i s = .next t) : InvBeforeRetire t := by
  have effect := exec_controlEffect h
  refine ⟨exec_mem_wf hm h, fun j hj => ?_, fun ht => effect.halted_inPrefix hprefix hhalt ht⟩
  obtain ⟨rfl, hstring, hp, hh⟩ := effect.isString_of_repeating hrep hj
  obtain ⟨hpfx, hcx, hip⟩ := (exec_string_atPrefix hstring h hrep).resolve_left (by rw [hj]; nofun)
  exact ⟨hstring, hpfx, hcx, hip, hp.trans hprefix, hh.trans hhalt⟩

theorem invalidOpcode_eq (s : State) : invalidOpcode s = enter 6 (s.setIp s.startIp) := if_pos rfl

theorem invalidOpcode_inv {s t : State} (hm : Memory.wf s.mem) (h : invalidOpcode s = .ok t) : Inv t := by
  rw [invalidOpcode_eq] at h
  exact enter_inv (s := s.setIp s.startIp) hm h

/-- A fetch changes the count of free values alone. -/
theorem fetchByte_state (a : Nat) (s : State) : ∃ m, (fetchByte a s).2 = { s with freeCount := m } := by
  unfold fetchByte
  split
  · exact ⟨_, rfl⟩
  · split <;> exact ⟨_, rfl⟩

theorem fetchBytes_state (n : Nat) (off : Word) (s : State) : ∃ m, (fetchBytes n off s).2 = { s with freeCount := m } := by
  induction n generalizing off s with
  | zero => exact ⟨_, rfl⟩
  | succ n ih =>
    obtain ⟨k, hhead⟩ := fetchByte_state (phys s.sregs.cs off) s
    obtain ⟨m, htail⟩ := ih (off + 1) { s with freeCount := k }
    exact ⟨m, by rw [fetchBytes, hhead]; exact htail⟩

/-- What a step does from `s` before its end, with the state it leaves: it takes an interrupt, idles, runs an iteration of a
repeated string, runs an instruction or one of the prefixes, or raises type 6 for an undefined encoding. -/
inductive StepBody (s : State) : State → Prop where
  | interrupt {d : Due} {u : State} (h : takeInterrupt d s = .ok u) : StepBody s u
  | idle : StepBody s s
  | iteration {i : Instr} {u : State} (hi : s.repeating = some i) (hhalt : s.halted = false) (h : exec i (resume s) = .next u) :
      StepBody s u
  | instruction {i : Instr} {len : Nat} {u : State} (hrep : s.repeating = none) (hhalt : s.halted = false)
      (h : exec i (begin len (fetch s).2) = .next u) : StepBody s u
  | undefinedOpcode {u : State} (h : invalidOpcode (begin 0 (fetch s).2) = .ok u) : StepBody s u

/-- A step that answers is one of these bodies, and the end of the step. -/
theorem step_eq_next {s t : State} (h : step s = .next t) : ∃ tf0 u, StepBody s u ∧ finishState tf0 u = .ok t := by
  have ends {tf0 : Bool} {r : Result} (hr : finish tf0 r = .next t) (hbody : ∀ u, r = .next u → StepBody s u) :
      ∃ tf0 u, StepBody s u ∧ finishState tf0 u = .ok t :=
    have ⟨u, hu, hfinish⟩ := finish_eq_next hr
    ⟨tf0, u, hbody u hu, hfinish⟩
  unfold step at h
  split at h
  case h_1 => exact ends h fun u hu => .interrupt (outcome_eq_next.mp hu)
  case h_2 =>
    split at h
    case isTrue => exact ends h fun u hu => Host.Outcome.next.inj hu ▸ .idle
    case isFalse hhalted =>
      have hhalt : s.halted = false := Bool.eq_false_iff.mpr hhalted
      split at h
      case h_1 i hi => exact ends h fun u hu => .iteration hi hhalt hu
      case h_2 hrep =>
        split at h
        case h_1 =>
          split at h
          · cases h
          · exact ends h fun u hu => .instruction hrep hhalt hu
        case h_2 => exact ends h fun u hu => .undefinedOpcode (outcome_eq_next.mp hu)
        case h_3 | h_4 => cases h

/-- Each body leaves a state that meets the invariant, but for the prefixes. -/
theorem StepBody.invBeforeRetire {s u : State} (hinv : Inv s) (hbody : StepBody s u) : InvBeforeRetire u := by
  obtain ⟨m, hfetch⟩ : ∃ m, (fetch s).2 = { s with freeCount := m } := fetchBytes_state _ _ _
  cases hbody with
  | interrupt h => exact invBeforeRetire_of_inv (takeInterrupt_inv hinv.memory h)
  | idle => exact invBeforeRetire_of_inv hinv
  | iteration hi hhalt h =>
    obtain ⟨-, -, -, -, hprefix, -⟩ := hinv.repeated _ hi
    exact exec_invBeforeRetire (s := resume s) hinv.memory rfl hprefix hhalt h
  | instruction hrep hhalt h =>
    rw [hfetch] at h
    exact exec_invBeforeRetire (s := begin _ { s with freeCount := m }) hinv.memory hrep rfl hhalt h
  | undefinedOpcode h =>
    rw [hfetch] at h
    exact invBeforeRetire_of_inv (invalidOpcode_inv (s := begin 0 { s with freeCount := m }) hinv.memory h)

/-- Settles O10: what the body of a step leaves meets the invariant but for the prefixes, and the end of the step drops those of an
instruction that is complete. -/
theorem stepKeepsInv : Obligations.StepKeepsInv := by
  intro s t hinv h
  obtain ⟨tf0, u, hbody, hfinish⟩ := step_eq_next h
  exact finishState_inv (hbody.invBeforeRetire hinv) hfinish

end Sys2Proof.Proofs
end

section
/-! SUPPORT. Proofs of the statements about data transfer (`40_data_transfer.md`) between registers, memory and immediates: MOV,
XCHG, XLAT, LEA, LDS and LES. -/

namespace Sys2Proof.Proofs

open Sys2Proof Sys2Proof.Machine Sys2Proof.Safety Sys2Proof.Laws

/-! ### An operand written, with nothing but memory cycles before it -/

@[simp] theorem logEvents_nil (s : State) : s.logEvents [] = s := by simp [State.logEvents]

theorem setRm8_wrote_logged (rm : Rm8) (v : Byte) (s : State) {es : List BusEvent} (hes : DataCycles es) :
    WroteByte rm v s (setRm8 rm v (s.logEvents es)) := setRm8_wrote' rm v s s.flags s.freeCount hes

theorem setRm16_wrote_logged {rm : Rm16} {s : State} (v : Word) {es : List BusEvent} (hes : DataCycles es) (h : Accessible rm s) :
    ∃ t, setRm16 rm v (s.logEvents es) = .ok t ∧ WroteWord rm v s t ∧ t.flags = s.flags ∧ t.freeCount = s.freeCount := by
  obtain ⟨t, ht, hw, hf, hn⟩ := setRm16_wrote v s.flags s.freeCount s.freeCount hes h
  refine ⟨t, ht, ?_, hf, hn⟩
  rwa [← hn] at hw

/-- What register writes and stores may change: registers, memory, the queue's old bytes, the device writes and the log. -/
def RegsAndStores (s t : State) : Prop :=
  t = { s with regs := t.regs, mem := t.mem, stale := t.stale, devWrites := t.devWrites, busLog := t.busLog }

theorem regsAndStores_trans {s t u : State} (h : RegsAndStores s t) (h' : RegsAndStores t u) : RegsAndStores s u :=
  Eq.trans h' (by rw [h])

theorem regsAndStores_setReg8 (s : State) (r : Reg8) (v : Byte) : RegsAndStores s (s.setReg8 r v) := by cases r <;> rfl

theorem regsAndStores_setReg16 (s : State) (r : Reg16) (v : Word) : RegsAndStores s (s.setReg16 r v) := by cases r <;> rfl

theorem regsAndStores_of_wroteByte {rm : Rm8} {v : Byte} {s t : State} (h : WroteByte rm v s t) (hf : t.flags = s.flags)
    (hn : t.freeCount = s.freeCount) : RegsAndStores s t := by
  have hrest := h.rest
  rwa [hf, hn] at hrest

theorem regsAndStores_of_wroteWord {rm : Rm16} {v : Word} {s t : State} (h : WroteWord rm v s t) (hf : t.flags = s.flags)
    (hn : t.freeCount = s.freeCount) : RegsAndStores s t := by
  have hrest := h.rest
  rwa [hf, hn] at hrest

/-! ### MOV -/

theorem byteResult_of_setRm8 {i : Instr} {rm : Rm8} {v : Byte} {s : State} {es : List BusEvent} (hes : DataCycles es)
    (h : exec i s = .next (setRm8 rm v (s.logEvents es))) : ByteResult i rm v (· = s.flags) s :=
  ⟨_, h, setRm8_wrote_logged rm v s hes, by simp⟩

theorem wordResult_of_setRm16 {i : Instr} {rm : Rm16} {v : Word} {s : State} {es : List BusEvent} (hes : DataCycles es)
    (h : exec i s = outcome (setRm16 rm v (s.logEvents es))) : WordResult i rm v (· = s.flags) s := by
  intro ha
  obtain ⟨t, ht, hw, hf, -⟩ := setRm16_wrote_logged v hes ha
  exact ⟨t, by rw [h, ht, outcome_ok], hw, hf⟩

/-- A byte that needs no read is written to an operand. -/
theorem setRm8_byteResult {i : Instr} {rm : Rm8} {v : Byte} {s : State} (h : exec i s = .next (setRm8 rm v s)) :
    ByteResult i rm v (· = s.flags) s := byteResult_of_setRm8 dataCycles_nil (by rw [h, logEvents_nil])

theorem setRm16_wordResult {i : Instr} {rm : Rm16} {v : Word} {s : State} (h : exec i s = outcome (setRm16 rm v s)) :
    WordResult i rm v (· = s.flags) s := wordResult_of_setRm16 dataCycles_nil (by rw [h, logEvents_nil])

theorem mov8_byteResult {i : Instr} {dst src : Rm8} {s : State} (h : exec i s = outcome (mov8 dst src s)) :
    ByteResult i dst (opByte src s) (· = s.flags) s :=
  byteResult_of_setRm8 (dataCycles_read8 src s) (by rw [h, mov8, getRm8_eq, outcome_ok])

theorem mov16_wordResult {i : Instr} {dst src : Rm16} {s : State} (hsrc : Accessible src s)
    (h : exec i s = outcome (mov16 dst src s)) : WordResult i dst (opWord src s) (· = s.flags) s :=
  wordResult_of_setRm16 (dataCycles_read16 src s) (by rw [h, mov16, getRm16_ok hsrc, ok_bind])

theorem accessible_direct {a : Word} (h : a ≠ 0xFFFF#16) (s : State) : Accessible (.mem (.direct a)) s := by
  rintro _ ⟨rfl⟩; exact h

theorem setSReg_rest (s : State) (sr : SReg) (v : Word) : s.setSReg sr v = { s with sregs := (s.setSReg sr v).sregs } := by
  cases sr <;> rfl

/-- The shadow of a segment load closes the boundary (`60_exceptions.md` R531). -/
theorem boundaryOpen_of_inhibitNext {s : State} (h : s.inhibitNext = true) : boundaryOpen s = false := by simp [boundaryOpen, h]

theorem dueInterrupt_of_inhibitNext {s : State} (h : s.inhibitNext = true) : dueInterrupt s = none := by
  simp [dueInterrupt, boundaryOpen_of_inhibitNext h]

theorem stepTrapDue_of_inhibitNext {s : State} (h : s.inhibitNext = true) (tf0 : Bool) : stepTrapDue tf0 s = false := by
  simp [stepTrapDue, boundaryOpen_of_inhibitNext h]

theorem exec_movSregRm16 (sr : SReg) {rm : Rm16} {s : State} (h : Accessible rm s) : exec (.movSregRm16 sr rm) s =
    .next { (s.logEvents (readCycles16 rm s)).setSReg sr (opWord rm s) with inhibitNext := true } := by
  show outcome (loadSReg sr rm s) = _
  rw [loadSReg, getRm16_ok h]; rfl

/-- Settles O17. -/
theorem movForms : Obligations.MovForms := by
  refine ⟨fun s => ⟨?_, ?_, ?_, ?_, ?_, ?_, ?_, ?_, ?_, ?_, ?_, ?_⟩, fun s sr rm ha => ⟨setRm16_wordResult rfl, fun _ => ?toSreg⟩⟩
  · exact fun rm r => mov8_byteResult (src := .reg r) rfl
  · exact fun rm r => mov16_wordResult (src := .reg r) (accessible_reg r s) rfl
  · exact fun r rm => mov8_byteResult rfl
  · exact fun r rm hsrc => mov16_wordResult hsrc rfl
  · exact fun r i => setRm8_byteResult rfl
  · exact fun r v => setRm16_wordResult rfl
  · exact fun rm i => setRm8_byteResult rfl
  · exact fun rm v => setRm16_wordResult rfl
  · exact fun a => mov8_byteResult (src := .mem (.direct a)) rfl
  · exact fun a h => mov16_wordResult (src := .mem (.direct a)) (accessible_direct h s) rfl
  · exact fun a => mov8_byteResult (src := .reg .al) rfl
  · exact fun a => mov16_wordResult (src := .reg .ax) (accessible_reg .ax s) rfl
  case toSreg =>
    refine ⟨_, exec_movSregRm16 sr ha, ?_, ⟨_, dataCycles_read16 rm s, by simp⟩, ?_, fun x hx => ?_,
      dueInterrupt_of_inhibitNext rfl, stepTrapDue_of_inhibitNext rfl⟩
    · rw [setSReg_rest]; rfl
    · exact sreg_setSReg_same (s.logEvents _) sr _
    · exact sreg_setSReg_ne (s.logEvents _) _ hx

/-! ### XCHG -/

theorem setReg16_rest (s : State) (r : Reg16) (v : Word) : s.setReg16 r v = { s with regs := (s.setReg16 r v).regs } := by
  cases r <;> rfl

theorem exec_xchgRm8R8 (rm : Rm8) (r : Reg8) (s : State) : exec (.xchgRm8R8 rm r) s =
    .next ((setRm8 rm (s.reg8 r) (s.logEvents (readCycles8 rm s))).setReg8 r (opByte rm s)) := by
  show outcome (xchg8 rm r s) = _
  rw [xchg8, getRm8_eq]; rfl

theorem xchg16_eq {rm : Rm16} {s t : State} (r : Reg16) (ha : Accessible rm s)
    (ht : setRm16 rm (s.reg16 r) (s.logEvents (readCycles16 rm s)) = .ok t) :
    xchg16 rm r s = .ok (t.setReg16 r (opWord rm s)) := by
  rw [xchg16, getRm16_ok ha, ok_bind]
  show setRm16 rm (s.reg16 r) _ >>= _ = _
  rw [ht, ok_bind]

/-- A byte written to RAM is read there, by the address from before. -/
theorem read_setRm8_mem {m : Mem} {s : State} (v : Byte) (h : Ram (bytesOf8 (.mem m) s) s) :
    Memory.read (setRm8 (.mem m) v s).mem (phys (memSeg m s) (ea m s)) = v := by
  rw [setRm8_mem]
  exact read_storeByte_ram v (h _ (by simp [bytesOf8]))

theorem heldWord_setRm16_mem {m : Mem} {v : Word} {s t : State} (ht : setRm16 (.mem m) v s = .ok t)
    (h : Ram (bytesOf16 (.mem m) s) s) : heldWord t (memSeg m s) (ea m s) = v := by
  obtain ⟨-, rfl⟩ := writeWord_eq_ok.mp ht
  exact heldWord_storeWord v h

/-- Settles O21: the operand is written first, then the register, which may be the operand itself. -/
theorem xchgSwaps : Obligations.XchgSwaps := by
  intro s
  refine ⟨fun rm r => ?bytes, fun rm r ha => ?words, fun r => ?accumulator⟩
  case bytes =>
    refine ⟨_, exec_xchgRm8R8 rm r s, ?_⟩
    have hw := setRm8_wrote_logged rm (s.reg8 r) s (dataCycles_read8 rm s)
    have hrest := regsAndStores_of_wroteByte hw (by simp) (by simp)
    have hmem : Ram (bytesOf8 rm s) s → ∀ m, rm = .mem m →
        Memory.read (setRm8 rm (s.reg8 r) (s.logEvents (readCycles8 rm s))).mem (phys (memSeg m s) (ea m s)) = s.reg8 r := by
      rintro hr m rfl
      exact read_setRm8_mem (s := s.logEvents _) _ hr
    generalize setRm8 rm (s.reg8 r) (s.logEvents (readCycles8 rm s)) = t at hw hrest hmem ⊢
    refine ⟨reg8_setReg8_same t r _, fun hr m hm => ?_, ?_, fun h hr hrm => ?_, ?_, ?_, ?_, ?_⟩
    · rw [setReg8_mem]; exact hmem hr m hm
    · rintro x rfl
      by_cases hx : x = r
      · rw [hx, reg8_setReg8_same]; rfl
      · rw [reg8_setReg8_ne t _ hx]; exact hw.value fun _ h => by simp [bytesOf8] at h
    · rw [reg8_setReg8_ne t _ hr, hw.halves h hrm]
    · obtain ⟨hsp, hbp, hsi, hdi⟩ := setReg8_pointers t r (opByte rm s)
      rw [hsp, hbp, hsi, hdi]
      exact hw.pointers
    · exact ⟨by simpa using hw.memory.bytes, by simpa using hw.memory.devices⟩
    · exact regsAndStores_trans hrest (regsAndStores_setReg8 t r _)
    · exact onlyDataCycles_congr hw.cycles rfl (by simp)
  case words =>
    obtain ⟨t, ht, hw, hf, hn⟩ := setRm16_wrote_logged (s.reg16 r) (dataCycles_read16 rm s) ha
    have hrest := regsAndStores_of_wroteWord hw hf hn
    refine ⟨_, by rw [show exec (.xchgRm16R16 rm r) s = outcome (xchg16 rm r s) from rfl, xchg16_eq r ha ht, outcome_ok],
      reg16_setReg16_same t r _, fun hr m hm => ?_, ?_, fun x hx hrm => ?_, ?_, ?_, ?_⟩
    · subst hm
      have hheld : heldWord t (memSeg m s) (ea m s) = s.reg16 r := heldWord_setRm16_mem (s := s.logEvents _) ht hr
      simpa [heldWord] using hheld
    · rintro x rfl
      by_cases hx : x = r
      · rw [hx, reg16_setReg16_same]; rfl
      · rw [reg16_setReg16_ne t _ hx]; exact hw.value fun _ h => by simp [bytesOf16] at h
    · rw [reg16_setReg16_ne t _ hx, hw.registers x hrm]
    · exact ⟨by simpa using hw.memory.bytes, by simpa using hw.memory.devices⟩
    · exact regsAndStores_trans hrest (regsAndStores_setReg16 t r _)
    · exact onlyDataCycles_congr hw.cycles rfl (by simp)
  case accumulator =>
    refine ⟨(s.setReg16 .ax (s.reg16 r)).setReg16 r s.regs.ax, ?_, ?_, ?_, ?_, ?_⟩
    · exact rfl
    · rw [setReg16_rest, setReg16_rest s]
    · by_cases hr : r = .ax
      · subst hr; rfl
      · exact reg16_setReg16_ne _ _ (Ne.symm hr)
    · exact reg16_setReg16_same _ r _
    · intro x hr hx
      rw [reg16_setReg16_ne _ _ hr, reg16_setReg16_ne _ _ hx]

/-! ### XLAT, LEA, LDS and LES -/

theorem exec_xlat (s : State) : ∃ a, exec .xlat s =
      .next ((s.logEvents [.memRead false a (zeroExt (s.loadByte a))]).setReg8 .al (s.loadByte a)) ∧
    a = phys (s.sreg (s.pfx.seg.getD .ds)) (s.regs.bx + (s.reg8 .al).setWidth 16) := ⟨_, rfl, rfl⟩

theorem loadPointer_eq (sr : SReg) (r : Reg16) {m : Mem} {s : State} (h : ea m s ≤ 0xFFFC#16) : ∃ es, DataCycles es ∧
    loadPointer sr r m s = .ok (((s.logEvents es).setReg16 r (s.loadWord (phys (memSeg m s) (ea m s)))).setSReg sr
      (s.loadWord (phys (memSeg m s) (ea m s + 2)))) :=
  ⟨_, dataCycles_append (dataCycles_readWord s _) (dataCycles_readWord s _), by rw [loadPointer, readPointer_ok s h]; rfl⟩

/-- Settles O22. -/
theorem xlatLeaAndFarPointers : Obligations.XlatLeaAndFarPointers := by
  refine ⟨⟨fun rest => decodeOfEncode .xlat rest rfl, fun s => ⟨?xlat, fun r m => setRm16_wordResult rfl⟩⟩,
    fun s r m h => ?pointers⟩
  case xlat =>
    obtain ⟨a, hexec, rfl⟩ := exec_xlat s
    exact byteResult_of_setRm8 (rm := .reg .al) (dataCycles_readByte _ _) hexec
  case pointers =>
    obtain ⟨es, hes, hlds⟩ := loadPointer_eq .ds r h
    obtain ⟨fs, hfs, hles⟩ := loadPointer_eq .es r h
    refine ⟨_, _, congrArg outcome hlds, congrArg outcome hles, ?_, fun x hx => ?_, ?_, ?_, ⟨es, hes, by simp⟩, ?_,
      ⟨fs, hfs, by simp⟩⟩
    · exact reg16_setReg16_same (s.logEvents es) r _
    · exact reg16_setReg16_ne (s.logEvents es) _ hx
    · cases r <;> rfl
    · rw [setReg16_rest]; rfl
    · cases r <;> rfl

end Sys2Proof.Proofs
end

section
/-! SUPPORT. Proof of the statement about IN and OUT (`40_data_transfer.md` R225, R226, `20_memory.md` R90). -/

namespace Sys2Proof.Proofs

open Sys2Proof Sys2Proof.Machine Sys2Proof.Safety Sys2Proof.Laws

theorem checkPort_byte_ok {port : Word} (h : port ≤ 0xF7#16 ∨ 0x100#16 ≤ port) : checkPort false port = .ok () := by
  have hfree : touchesReservedPort false port = false := by
    simp only [touchesReservedPort, Bool.false_eq_true, if_false, Bool.and_eq_false_iff, decide_eq_false_iff_not]; bv_omega
  simp [checkPort, hfree]

/-- The two forms of an I/O instruction, with the port in the instruction or in DX, are one operation on the port. -/
theorem exec_of_portForm {byImm : Byte → Instr} {byDx i : Instr} {op : Word → State → Except Stop State} {port : Word} {s : State}
    (himm : ∀ p, exec (byImm p) s = outcome (op (p.setWidth 16) s)) (hdx : exec byDx s = outcome (op s.regs.dx s))
    (h : (∃ p : Byte, i = byImm p ∧ port = p.setWidth 16) ∨ (i = byDx ∧ port = s.regs.dx)) : exec i s = outcome (op port s) := by
  rcases h with ⟨p, rfl, rfl⟩ | ⟨rfl, rfl⟩
  · exact himm p
  · exact hdx

/-! ### IN -/

theorem in8_eq {port : Word} (s : State) (h : port ≤ 0xF7#16 ∨ 0x100#16 ≤ port) :
    in8 port s = .ok ((s.afterByteIn port).setReg8 .al (s.deviceByte port)) := by
  rw [in8, ioReadByte, checkPort_byte_ok h]; rfl

/-- A word at an even port of the 16-bit bus is one cycle (`20_memory.md` R90). -/
theorem in16_even {port : Word} (s : State) (h : port ≤ 0xF6#16 ∨ 0x100#16 ≤ port) (hlast : port ≠ 0xFFFF#16)
    (hbus : Config.bus16 = true) (heven : port.toNat % 2 = 0) :
    in16 port s = .ok { s with regs := { s.regs with ax := s.deviceValue true port }, ioIn := s.ioIn.tail,
                               busLog := s.busLog ++ [.input true port (s.deviceValue true port)] } := by
  have hsplit : splits port.toNat = false := by simp [splits, hbus, heven]
  rw [in16, ioReadWord, checkPort_word_ok h hlast]
  simp [State.deviceWord, hsplit, wordCycles, State.setReg16]

/-- Else it is the byte at the port and then the byte at the next port. -/
theorem in16_split {port : Word} (s : State) (h : port ≤ 0xF6#16 ∨ 0x100#16 ≤ port) (hlast : port ≠ 0xFFFF#16)
    (hsplit : Config.bus16 = false ∨ port.toNat % 2 = 1) :
    in16 port s = .ok (((s.afterByteIn port).afterByteIn (port + 1)).setReg16 .ax
      (joinBytes (s.deviceByte port) ((s.afterByteIn port).deviceByte (port + 1)))) := by
  have hs : splits port.toNat = true := by rcases hsplit with h | h <;> simp [splits, h]
  rw [in16, ioReadWord, checkPort_word_ok h hlast]
  simp [State.deviceWord, hs, wordCycles, State.setReg16, State.afterByteIn]

/-! ### OUT -/

theorem out8_eq {port : Word} (s : State) (h : port ≤ 0xF7#16 ∨ 0x100#16 ≤ port) :
    out8 port s = .ok (s.logEvents [.output false port (zeroExt (s.reg8 .al))]) := by
  rw [out8, ioWriteByte, checkPort_byte_ok h]; rfl

theorem out16_eq {port : Word} (s : State) (h : port ≤ 0xF6#16 ∨ 0x100#16 ≤ port) (hlast : port ≠ 0xFFFF#16) :
    out16 port s = .ok (s.logEvents (wordCycles .output (splits port.toNat) port (port + 1) s.regs.ax)) := by
  rw [out16, ioWriteWord, checkPort_word_ok h hlast]; rfl

/-- Settles O24: the port of each form, and then the lemma about its operation. -/
theorem portInputAndOutput : Obligations.PortInputAndOutput := by
  refine ⟨fun s => ⟨fun port i h hform => ?inByte, fun port i h hlast hform => ?inWord⟩,
    fun s => ⟨fun port i h hform => ?outByte, fun port i h hlast hform => ?outWord⟩⟩
  case inByte =>
    have hexec := exec_of_portForm (op := in8) (fun _ => rfl) rfl hform
    exact ⟨_, _, rfl, by rw [hexec, in8_eq s h, outcome_ok]; rfl, reg8_setReg8_same _ _ _, rfl,
      reg8_setReg8_ne (s.afterByteIn port) _ (by decide)⟩
  case inWord =>
    have hexec := exec_of_portForm (op := in16) (fun _ => rfl) rfl hform
    refine ⟨fun hbus heven => by rw [hexec, in16_even s h hlast hbus heven, outcome_ok], fun hsplit => ?_⟩
    rintro lo hi u rfl rfl rfl
    rw [hexec, in16_split s h hlast hsplit, outcome_ok]; rfl
  case outByte =>
    have hexec := exec_of_portForm (op := out8) (fun _ => rfl) rfl hform
    rw [hexec, out8_eq s h, outcome_ok]; rfl
  case outWord =>
    have hexec := exec_of_portForm (op := out16) (fun _ => rfl) rfl hform
    rw [hexec, out16_eq s h hlast, outcome_ok]
    exact ⟨fun hbus heven => by rw [wordCycles_even _ _ _ _ hbus heven]; rfl,
      fun hsplit => by rw [wordCycles_split _ _ _ _ hsplit]; rfl⟩

end Sys2Proof.Proofs
end

section
/-! SUPPORT. Proofs of the statements about the stack (`40_data_transfer.md` R210 to R218, R235, R236) and about the PSW as a word
(R250 to R253). -/

namespace Sys2Proof.Proofs

open Sys2Proof Sys2Proof.Machine Sys2Proof.Safety Sys2Proof.Laws

/-! ### PUSH -/

/-- A push after memory cycles and the use of a free value is a push. -/
theorem push_pushed_after {s t : State} {v : Word} {es : List BusEvent} {n : Nat} (hes : DataCycles es)
    (h : push v { s with busLog := s.busLog ++ es, freeCount := n } = .ok t) : Pushed v s t where
  rest := (push_pushed h).rest
  cycles := onlyDataCycles_trans ⟨es, hes, rfl⟩ (push_pushed h).cycles
  value := (push_pushed h).value
  memory := ⟨(push_pushed h).memory.bytes, (push_pushed h).memory.devices⟩

/-- An instruction that is a push of a word that the state determines. -/
theorem exec_pushed {i : Instr} {v : Word} {s : State} (hsp : s.regs.sp - 2 ≠ 0xFFFF#16) (h : exec i s = outcome (push v s)) :
    ∃ t, exec i s = .next t ∧ Pushed v s t :=
  ⟨_, by rw [h, push_eq v hsp, outcome_ok], push_pushed (push_eq v hsp)⟩

/-- The word that `FF /6` pushes is read first, and a free value is used (log 14). -/
theorem exec_pushRm16 {rm : Rm16} {v : Word} {s : State} {es : List BusEvent} (hes : DataCycles es)
    (hsp : s.regs.sp - 2 ≠ 0xFFFF#16) (h : pushedRm rm s = .ok (v, s.logEvents es)) :
    ∃ t, exec (.pushRm16 rm) s = .next t ∧ Pushed v s t := by
  have hpush : push v (s.logEvents es).nextFree = .ok (afterPush v (s.logEvents es).nextFree) := push_eq v hsp
  refine ⟨_, ?_, push_pushed_after (n := s.freeCount + 1) hes hpush⟩
  show outcome (pushRm rm s) = _
  rw [pushRm, h, ok_bind]
  exact congrArg outcome hpush

theorem pushedRm_eq {rm : Rm16} (hrm : rm ≠ .reg .sp) (s : State) : pushedRm rm s = getRm16 rm s := by
  unfold pushedRm
  split
  · exact absurd rfl hrm
  · rfl

/-- Settles O18. -/
theorem pushForms : Obligations.PushForms := by
  intro s hsp
  refine ⟨fun r hr => ?reg, exec_pushed hsp rfl, fun rm hrm ha => ?rm, ?longSp, fun v => exec_pushed hsp rfl,
    fun i => exec_pushed hsp rfl, exec_pushed hsp rfl, exec_pushed hsp rfl, exec_pushed hsp rfl, exec_pushed hsp rfl⟩
  case reg =>
    refine exec_pushed hsp ?_
    show outcome (pushReg r s) = _
    rw [pushReg, if_neg hr]
  case rm => exact exec_pushRm16 (dataCycles_read16 rm s) hsp (by rw [pushedRm_eq hrm, getRm16_ok ha])
  case longSp =>
    obtain ⟨t, hexec, ht⟩ := exec_pushRm16 (rm := .reg .sp) dataCycles_nil hsp (by rw [logEvents_nil]; rfl)
    exact ⟨t, _, hexec, ht, by split <;> simp⟩

/-! ### POP -/

theorem exec_popR16 (r : Reg16) {s : State} (h : s.regs.sp ≠ 0xFFFF#16) :
    exec (.popR16 r) s = .next ((afterPop s).setReg16 r (stackTop s)) := by
  show outcome (popReg r s) = _
  rw [popReg, pop_ok h]; rfl

theorem popSReg_eq (sr : SReg) {s : State} (h : s.regs.sp ≠ 0xFFFF#16) :
    popSReg sr s = .ok { (afterPop s).setSReg sr (stackTop s) with inhibitNext := true } := by
  rw [popSReg, pop_ok h]; rfl

/-- The address of an operand does not depend on SP. -/
theorem ea_setReg16_sp (m : Mem) (s : State) (v : Word) : ea m (s.setReg16 .sp v) = ea m s := by
  cases m with
  | direct a => rfl
  | plain b | disp8 b d | disp16 b d => cases b <;> rfl

theorem exec_popRm16 {rm : Rm16} {s : State} (h : s.regs.sp ≠ 0xFFFF#16) : exec (.popRm16 rm) s =
    outcome (setRm16 rm (stackTop s)
      ((s.setReg16 .sp (s.regs.sp + 2)).logEvents (s.wordReadCycles (phys s.sregs.ss s.regs.sp)))) := by
  show outcome (popRm rm s) = _
  rw [popRm, pop_ok h]; rfl

/-- Settles O19. -/
theorem popForms : Obligations.PopForms := by
  intro s hsp
  have hcycles := dataCycles_readWord s (phys s.sregs.ss s.regs.sp)
  refine ⟨fun r => ?reg, fun rm ha => ?rm, ?_, ?_, ?_⟩
  case reg =>
    refine ⟨_, exec_popR16 r hsp, ?_, onlyDataCycles_congr (afterPop_cycles s) rfl (by simp), reg16_setReg16_same _ r _,
      fun hr => ?_, fun x hx hxsp => ?_⟩
    · rw [setReg16_rest, afterPop_eq]
    · exact reg16_setReg16_ne (afterPop s) (x := .sp) _ (Ne.symm hr)
    · rw [reg16_setReg16_ne _ _ hx]
      exact reg16_setReg16_ne (s.logEvents _) _ hxsp
  case rm =>
    have ha' : Accessible rm (s.setReg16 .sp (s.regs.sp + 2)) := fun m hm => by rw [ea_setReg16_sp]; exact ha m hm
    obtain ⟨t, ht, hw, hf, -⟩ := setRm16_wrote_logged (stackTop s) hcycles ha'
    exact ⟨t, by rw [exec_popRm16 hsp, ht, outcome_ok], hw, hf⟩
  all_goals exact ⟨_, hcycles, congrArg outcome (popSReg_eq _ hsp)⟩

/-! ### LAHF, SAHF, PUSHF and POPF -/

theorem lowByte_getLsbD {n : Nat} (hn : n < 8) (v : Word) : (lowByte v).getLsbD n = v.getLsbD n := by
  simp [lowByte, hn]

theorem zeroExt_getLsbD {n : Nat} (hn : n < 8) (b : Byte) : (zeroExt b).getLsbD n = b.getLsbD n := by
  simp [zeroExt]; omega

theorem exec_lahf (s : State) :
    exec .lahf s = .next (s.setReg8 .ah (lowByte (s.flags.image s.free))).nextFree := rfl

theorem exec_sahf (s : State) : exec .sahf s = .next (s.setFlags { s.flags with
    sf := (zeroExt (s.reg8 .ah)).getLsbD 7, zf := (zeroExt (s.reg8 .ah)).getLsbD 6, af := (zeroExt (s.reg8 .ah)).getLsbD 4,
    pf := (zeroExt (s.reg8 .ah)).getLsbD 2, cf := (zeroExt (s.reg8 .ah)).getLsbD 0 }) := rfl

theorem exec_pushf {s : State} (h : s.regs.sp - 2 ≠ 0xFFFF#16) :
    ∃ t, exec .pushf s = .next t ∧ Pushed (s.flags.image s.free) s t := by
  have hpush : push (s.flags.image s.free) s.nextFree = .ok (afterPush (s.flags.image s.free) s.nextFree) := push_eq _ h
  refine ⟨_, congrArg outcome hpush, push_pushed_after (n := s.freeCount + 1) dataCycles_nil ?_⟩
  rw [List.append_nil]
  exact hpush

theorem exec_popf {s : State} (h : s.regs.sp ≠ 0xFFFF#16) :
    exec .popf s = .next ((afterPop s).setFlags (flagsOfImage (stackTop s))) := by
  show outcome (popPsw s) = _
  rw [popPsw, pop_ok h]; rfl

/-- Settles O28. -/
theorem flagTransfers : Obligations.FlagTransfers := by
  refine ⟨fun rest => ⟨decodeOfEncode .lahf rest rfl, decodeOfEncode .sahf rest rfl, decodeOfEncode .pushf rest rfl,
    decodeOfEncode .popf rest rfl⟩, fun s => ?_⟩
  have hflags : flagsOfImage (s.flags.image s.free) = s.flags := flagsOfImage_image _ _
  refine ⟨⟨_, exec_lahf s, rfl, reg8_setReg8_ne s _ (by decide), ?lahf⟩, ?sahf, fun h => ?pushf, fun h => ?popf⟩
  case lahf =>
    have hah : (s.setReg8 .ah (lowByte (s.flags.image s.free))).nextFree.reg8 .ah = lowByte (s.flags.image s.free) :=
      reg8_setReg8_same s .ah _
    have hbit {n : Nat} (hn : n < 8) := lowByte_getLsbD hn (s.flags.image s.free)
    rw [hah, hbit (by decide), hbit (by decide), hbit (by decide), hbit (by decide), hbit (by decide)]
    exact ⟨congrArg Flags.sf hflags, congrArg Flags.zf hflags, congrArg Flags.af hflags, congrArg Flags.pf hflags,
      congrArg Flags.cf hflags⟩
  case sahf =>
    have hbit {n : Nat} (hn : n < 8) := zeroExt_getLsbD hn (s.reg8 .ah)
    rw [exec_sahf, hbit (by decide), hbit (by decide), hbit (by decide), hbit (by decide), hbit (by decide)]
    rfl
  case pushf =>
    obtain ⟨t, hexec, ht⟩ := exec_pushf h
    exact ⟨t, _, hexec, ht, congrArg Flags.cf hflags, congrArg Flags.pf hflags, congrArg Flags.af hflags,
      congrArg Flags.zf hflags, congrArg Flags.sf hflags, congrArg Flags.tf hflags, congrArg Flags.ifl hflags,
      congrArg Flags.df hflags, congrArg Flags.ofl hflags⟩
  case popf => exact ⟨_, dataCycles_readWord s _, exec_popf h⟩

end Sys2Proof.Proofs
end

section
/-! SUPPORT. Rows of words pushed on the stack, and with them the proof of the statement about PUSHA and POPA (`40_data_transfer.md`
R217, R218). -/

namespace Sys2Proof.Proofs

open Sys2Proof Sys2Proof.Machine Sys2Proof.Safety Sys2Proof.Laws

/-! ### The bytes below an offset -/

/-- The physical addresses of the `n` bytes below an offset, from the top down. -/
def bytesBelow (n : Nat) (seg off : Word) : List Nat := (List.range n).map fun k => phys seg (off - BitVec.ofNat 16 (k + 1))

theorem mem_bytesBelow {n a : Nat} {seg off : Word} :
    a ∈ bytesBelow n seg off ↔ ∃ k < n, phys seg (off - BitVec.ofNat 16 (k + 1)) = a := by
  simp [bytesBelow]

theorem bytesBelow_add (m n : Nat) (seg off : Word) :
    bytesBelow (m + n) seg off = bytesBelow m seg off ++ bytesBelow n seg (off - BitVec.ofNat 16 m) := by
  simp only [bytesBelow, List.range_add, List.map_append, List.map_map]
  congr 1
  refine List.map_congr_left fun k _ => ?_
  simp [sub_ofNat_add]

/-- The two bytes of the word that the push number `k` stores. -/
theorem wordBytes_below {off : Word} {k : Nat} (seg : Word) (h : off - BitVec.ofNat 16 (2 * k + 2) ≠ 0xFFFF#16) :
    wordBytes seg (off - BitVec.ofNat 16 (2 * k + 2)) =
      [phys seg (off - BitVec.ofNat 16 (2 * k + 1 + 1)), phys seg (off - BitVec.ofNat 16 (2 * k + 1))] := by
  have hnext : off - BitVec.ofNat 16 (2 * k + 2) + 1 = off - BitVec.ofNat 16 (2 * k + 1) := by
    rw [show 2 * k + 2 = 2 * k + 1 + 1 from rfl, sub_ofNat_add]; exact BitVec.sub_add_cancel _ _
  rw [wordBytes, nextAddr_phys seg h, hnext]

theorem wordBytes_subset_bytesBelow {off : Word} {k n : Nat} (seg : Word) (h : off - BitVec.ofNat 16 (2 * k + 2) ≠ 0xFFFF#16)
    (hk : k < n) : ∀ a ∈ wordBytes seg (off - BitVec.ofNat 16 (2 * k + 2)), a ∈ bytesBelow (2 * n) seg off := by
  rw [wordBytes_below seg h]
  simp only [List.mem_cons, List.not_mem_nil, or_false, mem_bytesBelow]
  rintro a (rfl | rfl)
  · exact ⟨2 * k + 1, by omega, rfl⟩
  · exact ⟨2 * k, by omega, rfl⟩

/-- Within 64 Kbytes a byte above an offset is none of those below it. -/
theorem phys_not_mem_bytesBelow {off : Word} {i m n : Nat} (seg : Word) (h0 : 0 < i) (hi : i ≤ m) (hn : m + n ≤ 2 ^ 16) :
    phys seg (off - BitVec.ofNat 16 i) ∉ bytesBelow n seg (off - BitVec.ofNat 16 m) := by
  intro h
  obtain ⟨j, hj, h⟩ := mem_bytesBelow.mp h
  rw [← sub_ofNat_add, phys_inj] at h
  have h' : BitVec.ofNat 16 (m + (j + 1)) = BitVec.ofNat 16 i := (BitVec.sub_right_inj off).mp h
  have := congrArg BitVec.toNat h'
  simp only [BitVec.toNat_ofNat] at this
  omega

/-- A word of a row is none of the bytes below the row. -/
theorem wordBytes_not_mem_bytesBelow {off : Word} {k m n : Nat} (seg : Word) (h : off - BitVec.ofNat 16 (2 * k + 2) ≠ 0xFFFF#16)
    (hk : k < m) (hn : 2 * m + n ≤ 2 ^ 16) :
    ∀ a ∈ wordBytes seg (off - BitVec.ofNat 16 (2 * k + 2)), a ∉ bytesBelow n seg (off - BitVec.ofNat 16 (2 * m)) := by
  rw [wordBytes_below seg h]
  simp only [List.mem_cons, List.not_mem_nil, or_false]
  rintro a (rfl | rfl)
  · exact phys_not_mem_bytesBelow seg (by omega) (by omega) hn
  · exact phys_not_mem_bytesBelow seg (by omega) (by omega) hn

/-! ### Rows of pushed words -/

theorem wordsBelow_of_succ {n : Nat} {off : Word} (h : WordsBelow (n + 1) off) :
    off - 2 ≠ 0xFFFF#16 ∧ WordsBelow n (off - 2) := by
  refine ⟨h 0 (by omega), fun k hk => ?_⟩
  have := h (k + 1) (by omega)
  rwa [show 2 * (k + 1) + 2 = 2 + (2 * k + 2) by omega, sub_ofNat_add] at this

theorem wordsBelow_append {m n : Nat} {off : Word} (hm : WordsBelow m off) (hn : WordsBelow n (off - BitVec.ofNat 16 (2 * m))) :
    WordsBelow (m + n) off := by
  intro k hk
  by_cases hkm : k < m
  · exact hm k hkm
  · have := hn (k - m) (by omega)
    rwa [← sub_ofNat_add, show 2 * m + (2 * (k - m) + 2) = 2 * k + 2 by omega] at this

theorem regsAndStores_region {s t : State} (h : RegsAndStores s t) : t.region = s.region := by rw [h]; rfl

theorem regsAndStores_sregs {s t : State} (h : RegsAndStores s t) : t.sregs = s.sregs := by rw [h]

/-- From `s` to `t` the words `vs` are pushed, the first of them first; other registers than SP may change. -/
structure PushedRow (vs : List Word) (s t : State) : Prop where
  rest : RegsAndStores s t
  sp : t.regs.sp = s.regs.sp - BitVec.ofNat 16 (2 * vs.length)
  cycles : OnlyDataCycles s t
  inside : WordsBelow vs.length s.regs.sp
  memory : MemSameBut (bytesBelow (2 * vs.length) s.sregs.ss s.regs.sp) s t
  values : 2 * vs.length ≤ 2 ^ 16 → Ram (bytesBelow (2 * vs.length) s.sregs.ss s.regs.sp) s → ∀ k v, vs[k]? = some v →
    heldWord t s.sregs.ss (s.regs.sp - BitVec.ofNat 16 (2 * k + 2)) = v

/-- What writes registers other than SP, and reads memory, pushes nothing. -/
theorem pushedRow_nil {s t : State} {es : List BusEvent} (hes : DataCycles es)
    (h : t = { s with regs := t.regs, busLog := s.busLog ++ es }) (hsp : t.regs.sp = s.regs.sp) : PushedRow [] s t where
  rest := by rw [h]; rfl
  sp := by simpa using hsp
  cycles := ⟨es, hes, by rw [h]⟩
  inside := wordsBelow_zero _
  memory := ⟨fun a _ => by rw [h], fun _ => by rw [h]⟩
  values := fun _ _ k v hk => by simp at hk

theorem pushedRow_refl (s : State) : PushedRow [] s s := pushedRow_nil dataCycles_nil (by rw [List.append_nil]) rfl

theorem pushedRow_singleton {s t : State} {v : Word} (h : push v s = .ok t) : PushedRow [v] s t := by
  have hend : s.regs.sp - BitVec.ofNat 16 (2 * 0 + 2) ≠ 0xFFFF#16 := (push_eq_ok.mp h).1
  have hbytes := wordBytes_subset_bytesBelow s.sregs.ss hend (Nat.zero_lt_one)
  have hrest := push_rest h
  have hpushed := push_pushed h
  refine ⟨?_, by rw [hrest]; rfl, hpushed.cycles, wordsBelow_succ hend (wordsBelow_zero _), memSame_mono hpushed.memory hbytes,
    fun _ hram k w hk => ?_⟩
  · rw [RegsAndStores, hrest]
  · cases k with
    | zero => exact Option.some.inj hk ▸ hpushed.value fun a ha => hram a (hbytes a ha)
    | succ k => cases hk

/-- One row below another: the later words leave the earlier ones alone. -/
theorem pushedRow_append {vs ws : List Word} {s t u : State} (h : PushedRow vs s t) (h' : PushedRow ws t u) :
    PushedRow (vs ++ ws) s u := by
  have hss : t.sregs.ss = s.sregs.ss := by rw [regsAndStores_sregs h.rest]
  have hbytes : bytesBelow (2 * (vs ++ ws).length) s.sregs.ss s.regs.sp =
      bytesBelow (2 * vs.length) s.sregs.ss s.regs.sp ++ bytesBelow (2 * ws.length) t.sregs.ss t.regs.sp := by
    rw [List.length_append, Nat.mul_add, bytesBelow_add, h.sp, hss]
  refine ⟨regsAndStores_trans h.rest h'.rest, ?_, onlyDataCycles_trans h.cycles h'.cycles, ?_, ?_, fun hlen hram k v hk => ?_⟩
  · rw [h'.sp, h.sp, ← sub_ofNat_add, List.length_append, Nat.mul_add]
  · rw [List.length_append]; exact wordsBelow_append h.inside (h.sp ▸ h'.inside)
  · rw [hbytes]; exact memSame_trans h.memory h'.memory (regsAndStores_region h.rest)
  · rw [List.length_append] at hlen
    rw [hbytes] at hram
    by_cases hkv : k < vs.length
    · have houtside := wordBytes_not_mem_bytesBelow s.sregs.ss (h.inside k hkv) hkv (Nat.mul_add 2 _ _ ▸ hlen)
      rw [← h.sp, ← hss] at houtside
      rw [← hss, heldWord_congr h'.memory houtside, hss]
      rw [List.getElem?_append_left hkv] at hk
      exact h.values (by omega) (fun a ha => hram a (List.mem_append_left _ ha)) k v hk
    · have hw := h'.values (by omega)
        (fun a ha => by rw [regsAndStores_region h.rest]; exact hram a (List.mem_append_right _ ha)) (k - vs.length) v
        (by rwa [List.getElem?_append_right (by omega)] at hk)
      rwa [hss, h.sp, ← sub_ofNat_add, show 2 * vs.length + (2 * (k - vs.length) + 2) = 2 * k + 2 by omega] at hw

/-- A word outside the row is read as before. -/
theorem loadWord_of_pushedRow {vs : List Word} {s t : State} {seg off : Word} (h : PushedRow vs s t)
    (hd : ∀ a ∈ wordBytes seg off, a ∉ bytesBelow (2 * vs.length) s.sregs.ss s.regs.sp) :
    t.loadWord (phys seg off) = s.loadWord (phys seg off) := by
  have hbyte (a : Nat) (ha : a ∈ wordBytes seg off) : t.loadByte a = s.loadByte a := by
    have hfree : t.freeCount = s.freeCount := by rw [h.rest]
    simp [State.loadByte, regsAndStores_region h.rest, hfree, h.memory.bytes a (hd a ha)]
  rw [State.loadWord, State.loadWord, hbyte _ (by simp [wordBytes]), hbyte _ (by simp [wordBytes])]

/-! ### PUSHA and POPA -/

theorem pushList_ok {vs : List Word} {s : State} (h : WordsBelow vs.length s.regs.sp) : ∃ t, pushList vs s = .ok t ∧
    PushedRow vs s t ∧ t.regs = { s.regs with sp := t.regs.sp } := by
  induction vs generalizing s with
  | nil => exact ⟨s, rfl, pushedRow_refl s, rfl⟩
  | cons v vs ih =>
    obtain ⟨hend, hrow⟩ := wordsBelow_of_succ h
    have hpush := push_eq v hend
    have hsp : (afterPush v s).regs.sp = s.regs.sp - 2 := by rw [push_rest hpush]
    obtain ⟨u, hu, hvs, hregs⟩ := ih (s := afterPush v s) (hsp ▸ hrow)
    refine ⟨u, ?_, pushedRow_append (pushedRow_singleton hpush) hvs, ?_⟩
    · rw [pushList, hpush, ok_bind]; exact hu
    · rw [hregs, push_rest hpush]

/-- The sixteen bytes of PUSHA, from the bottom up. -/
theorem mem_pushaBytes {seg off : Word} {a : Nat} :
    a ∈ (List.range 16).map (fun k => phys seg (off - 16 + BitVec.ofNat 16 k)) ↔ a ∈ bytesBelow 16 seg off := by
  simp only [List.mem_map, List.mem_range, mem_bytesBelow]
  constructor
  · rintro ⟨k, hk, rfl⟩
    exact ⟨15 - k, by omega, by congr 1; bv_omega⟩
  · rintro ⟨k, hk, rfl⟩
    exact ⟨15 - k, by omega, by congr 1; bv_omega⟩

/-- What PUSHA pushes, in its order (R217). -/
def pushaWords (s : State) : List Word :=
  [s.regs.ax, s.regs.cx, s.regs.dx, s.regs.bx, s.regs.sp, s.regs.bp, s.regs.si, s.regs.di]

theorem exec_pusha {s : State} (h : WordsBelow 8 s.regs.sp) : ∃ t, exec .pusha s = .next t ∧ PushedRow (pushaWords s) s t ∧
    t.regs = { s.regs with sp := s.regs.sp - 16 } := by
  obtain ⟨t, ht, hrow, hregs⟩ := pushList_ok (vs := pushaWords s) h
  exact ⟨t, congrArg outcome ht, hrow, by rw [hregs, hrow.sp]; rfl⟩

theorem pushaSlot_eq (off : Word) {k : Nat} (hk : k < 8) :
    off - 16 + BitVec.ofNat 16 (2 * k) = off - BitVec.ofNat 16 (2 * (7 - k) + 2) := by bv_omega

/-- Of the eight words that PUSHA stores, the last pushed stands lowest. -/
theorem pushaWords_held {s t : State} {k : Nat} {v : Word} (h : PushedRow (pushaWords s) s t)
    (hram : Ram (bytesBelow 16 s.sregs.ss s.regs.sp) s) (hk : k < 8) (hv : (pushaWords s)[7 - k]? = some v) :
    heldWord t s.sregs.ss (s.regs.sp - 16 + BitVec.ofNat 16 (2 * k)) = v := by
  rw [pushaSlot_eq _ hk]
  exact h.values (show 2 * 8 ≤ 2 ^ 16 by decide) hram _ v hv

/-- Since `s` memory has been read and registers have been written, which are now `rs`. -/
structure ReadTo (s : State) (rs : Regs) (u : State) : Prop where
  rest : u = { s with regs := rs, busLog := u.busLog }
  cycles : OnlyDataCycles s u

theorem readTo_refl (s : State) : ReadTo s s.regs s := ⟨rfl, onlyDataCycles_refl s⟩

theorem readTo_setReg16 {s u : State} {rs : Regs} (h : ReadTo s rs u) (r : Reg16) (v : Word) :
    ReadTo s ({ s with regs := rs }.setReg16 r v).regs (u.setReg16 r v) := by
  obtain ⟨hrest, hcycles⟩ := h
  refine ⟨?_, onlyDataCycles_congr hcycles rfl (by simp)⟩
  rw [hrest]
  cases r <;> rfl

theorem completes_of_readTo {s u : State} {rs : Regs} (h : ReadTo s rs u) :
    Completes (outcome (.ok u)) s { s with regs := rs } := by
  obtain ⟨hrest, es, hes, hlog⟩ := h
  exact ⟨es, hes, by rw [outcome_ok, hrest, hlog]⟩

/-- A pop after other pops answers a word above the top of the stack as it was before them. -/
theorem readTo_pop {s u : State} {rs : Regs} {k : Word} (h : ReadTo s rs u) (hsp : rs.sp = s.regs.sp + k)
    (hend : s.regs.sp + k ≠ 0xFFFF#16) :
    ∃ w, pop u = .ok (stackWord s k, w) ∧ ReadTo s { rs with sp := s.regs.sp + (k + 2) } w := by
  obtain ⟨hrest, hcycles⟩ := h
  generalize u.busLog = log at hrest
  subst hrest
  have hnext : rs.sp + 2 = s.regs.sp + (k + 2) := by rw [hsp, BitVec.add_assoc]
  have htop : stackTop { s with regs := rs, busLog := log } = stackWord s k := by
    rw [stackWord, ← hsp]
    exact loadWord_congr rfl rfl rfl _
  exact ⟨_, by rw [pop_ok (hsp ▸ hend), htop], by rw [← hnext]; rfl, onlyDataCycles_trans hcycles (afterPop_cycles _)⟩

theorem completes_pop_bind {s u t : State} {rs : Regs} {f : Word × State → Except Stop State} (k : Word) (h : ReadTo s rs u)
    (hsp : rs.sp = s.regs.sp + k) (hend : s.regs.sp + k ≠ 0xFFFF#16)
    (hf : ∀ w, ReadTo s { rs with sp := s.regs.sp + (k + 2) } w → Completes (outcome (f (stackWord s k, w))) s t) :
    Completes (outcome (pop u >>= f)) s t := by
  obtain ⟨w, hpop, hw⟩ := readTo_pop h hsp hend
  rw [hpop, ok_bind]
  exact hf w hw

/-- POPA pops eight words, the fourth of which goes nowhere (R218). -/
theorem exec_popa {s : State} (h : WordsFrom 8 s.regs.sp) : Completes (exec .popa s) s { s with
    regs :=
      { di := stackWord s 0, si := stackWord s 2, bp := stackWord s 4, sp := s.regs.sp + 16, bx := stackWord s 8,
        dx := stackWord s 10, cx := stackWord s 12, ax := stackWord s 14 } } :=
  completes_pop_bind 0 (readTo_refl s) (BitVec.add_zero _).symm (h 0 (by decide)) fun _ hdi =>
  completes_pop_bind 2 (readTo_setReg16 hdi .di _) rfl (h 1 (by decide)) fun _ hsi =>
  completes_pop_bind 4 (readTo_setReg16 hsi .si _) rfl (h 2 (by decide)) fun _ hbp =>
  completes_pop_bind 6 (readTo_setReg16 hbp .bp _) rfl (h 3 (by decide)) fun _ hsp =>
  completes_pop_bind 8 hsp rfl (h 4 (by decide)) fun _ hbx =>
  completes_pop_bind 10 (readTo_setReg16 hbx .bx _) rfl (h 5 (by decide)) fun _ hdx =>
  completes_pop_bind 12 (readTo_setReg16 hdx .dx _) rfl (h 6 (by decide)) fun _ hcx =>
  completes_pop_bind 14 (readTo_setReg16 hcx .cx _) rfl (h 7 (by decide)) fun _ hax =>
  completes_of_readTo (readTo_setReg16 hax .ax _)

theorem answersOrEnds_of_ok {α : Type} {a : α} {P : α → Prop} (h : AnswersOrEnds (.ok a) P) : P a := by
  obtain h | ⟨b, hb, hP⟩ := h
  · cases h
  · cases hb; exact hP

/-- An answer of PUSHA says that its eight words stand below offset 0FFFFH. -/
theorem wordsBelow_of_exec_pusha {s t : State} (h : exec .pusha s = .next t) : WordsBelow 8 s.regs.sp := by
  have ht : pushList (pushaWords s) s = .ok t := outcome_eq_next.mp h
  exact answersOrEnds_of_ok (a := t) (ht ▸ pushList_wordsBelow (pushaWords s) s)

/-- The words that PUSHA stored are those that POPA loads. -/
theorem popa_after_pusha {s t : State} (hram : Ram (bytesBelow 16 s.sregs.ss s.regs.sp) s) (h : exec .pusha s = .next t) :
    ∃ u, exec .popa t = .next u ∧ u.regs = s.regs ∧ u.sregs = s.sregs ∧ u.flags = s.flags := by
  have hbelow := wordsBelow_of_exec_pusha h
  obtain ⟨t', ht, hrow, hregs⟩ := exec_pusha hbelow
  obtain rfl : t' = t := by rw [ht] at h; exact Host.Outcome.next.inj h
  have hsp : t'.regs.sp = s.regs.sp - 16 := by rw [hregs]
  have hsregs : t'.sregs = s.sregs := regsAndStores_sregs hrow.rest
  have hflags : t'.flags = s.flags := by rw [hrow.rest]
  have hfrom : WordsFrom 8 t'.regs.sp := fun k hk => by rw [hsp, pushaSlot_eq _ hk]; exact hbelow (7 - k) (by omega)
  have loaded {k : Nat} {v : Word} (hk : k < 8) (hv : (pushaWords s)[7 - k]? = some v) :
      stackWord t' (BitVec.ofNat 16 (2 * k)) = v := by
    rw [stackWord, hsp, hsregs, loadWord_ram, pushaWords_held hrow hram hk hv]
    rw [pushaSlot_eq _ hk]
    intro a ha
    rw [regsAndStores_region hrow.rest]
    exact hram a (wordBytes_subset_bytesBelow (n := 8) s.sregs.ss (hbelow (7 - k) (by omega)) (by omega) a ha)
  have hdi : stackWord t' 0 = s.regs.di := loaded (k := 0) (by decide) rfl
  have hsi : stackWord t' 2 = s.regs.si := loaded (k := 1) (by decide) rfl
  have hbp : stackWord t' 4 = s.regs.bp := loaded (k := 2) (by decide) rfl
  have hbx : stackWord t' 8 = s.regs.bx := loaded (k := 4) (by decide) rfl
  have hdx : stackWord t' 10 = s.regs.dx := loaded (k := 5) (by decide) rfl
  have hcx : stackWord t' 12 = s.regs.cx := loaded (k := 6) (by decide) rfl
  have hax : stackWord t' 14 = s.regs.ax := loaded (k := 7) (by decide) rfl
  obtain ⟨es, -, hpopa⟩ := exec_popa hfrom
  rw [hdi, hsi, hbp, hbx, hdx, hcx, hax, hsp, BitVec.sub_add_cancel] at hpopa
  exact ⟨_, hpopa, rfl, hsregs, hflags⟩

/-- Settles O20. -/
theorem pushaAndPopa : Obligations.PushaAndPopa := by
  refine ⟨fun s => ⟨fun h => ?pusha, exec_popa⟩, fun s t hram h => ?restored⟩
  case restored => exact popa_after_pusha (fun a ha => hram a (mem_pushaBytes.mpr ha)) h
  case pusha =>
    obtain ⟨t, ht, hrow, hregs⟩ := exec_pusha h
    refine ⟨t, ht, ?_, hrow.cycles, memSame_mono hrow.memory fun a ha => mem_pushaBytes.mpr ha,
      fun hram => ?_⟩
    · rw [← hregs]; exact hrow.rest
    · have held {k : Nat} {v : Word} (hk : k < 8) (hv : (pushaWords s)[7 - k]? = some v) :=
        pushaWords_held hrow (fun a ha => hram a (mem_pushaBytes.mpr ha)) hk hv
      have hrange : List.range 8 = [0, 1, 2, 3, 4, 5, 6, 7] := rfl
      simp only [hrange, List.map_cons, List.map_nil]
      rw [held (k := 0) (by decide) rfl, held (k := 1) (by decide) rfl, held (k := 2) (by decide) rfl,
        held (k := 3) (by decide) rfl, held (k := 4) (by decide) rfl, held (k := 5) (by decide) rfl,
        held (k := 6) (by decide) rfl, held (k := 7) (by decide) rfl]

end Sys2Proof.Proofs
end

section
/-! SUPPORT. Proofs of the statements about ENTER and LEAVE (`40_data_transfer.md` R235, R236). -/

namespace Sys2Proof.Proofs

open Sys2Proof Sys2Proof.Machine Sys2Proof.Safety Sys2Proof.Laws

/-! ### The display -/

/-- The first `n` of the words are those of the old display, from below BP down, as far as they stand outside the `m` bytes below
SP. -/
def CopiesDisplay (n m : Nat) (vs : List Word) (s : State) : Prop :=
  ∀ k < n, (∀ a ∈ wordBytes s.sregs.ss (s.regs.bp - BitVec.ofNat 16 (2 * k + 2)), a ∉ bytesBelow m s.sregs.ss s.regs.sp) →
    vs[k]? = some (s.loadWord (phys s.sregs.ss (s.regs.bp - BitVec.ofNat 16 (2 * k + 2))))

/-- From `s` to `t` the words `vs` are pushed, and of the registers only SP and BP change. -/
structure PushedFrame (vs : List Word) (s t : State) : Prop where
  row : PushedRow vs s t
  regs : t.regs = { s.regs with sp := t.regs.sp, bp := t.regs.bp }

theorem pushedFrame_refl (s : State) : PushedFrame [] s s := ⟨pushedRow_refl s, rfl⟩

/-- The state in which one word of the display is pushed: BP is moved, and the word has been read. -/
def afterDisplayRead (s : State) : State :=
  (s.setReg16 .bp (s.regs.bp - 2)).logEvents
    ((s.setReg16 .bp (s.regs.bp - 2)).wordReadCycles (phys s.sregs.ss (s.regs.bp - 2)))

theorem copyFrames_succ {n : Nat} {s t : State} (hend : s.regs.bp - 2 ≠ 0xFFFF#16)
    (ht : push (s.loadWord (phys s.sregs.ss (s.regs.bp - 2))) (afterDisplayRead s) = .ok t) :
    copyFrames (n + 1) s = copyFrames n t := by
  have hread := readWord_ok (seg := s.sregs.ss) (s.setReg16 .bp (s.regs.bp - 2)) hend
  rw [copyFrames]
  show readWord s.sregs.ss (s.regs.bp - 2) (s.setReg16 .bp (s.regs.bp - 2)) >>= _ = _
  rw [hread, ok_bind]
  show push (s.loadWord _) (afterDisplayRead s) >>= _ = _
  rw [ht, ok_bind]

theorem pushedRow_display {s t : State} (ht : push (s.loadWord (phys s.sregs.ss (s.regs.bp - 2))) (afterDisplayRead s) = .ok t) :
    PushedRow [s.loadWord (phys s.sregs.ss (s.regs.bp - 2))] s t :=
  pushedRow_append (t := afterDisplayRead s) (pushedRow_nil (s := s) (dataCycles_readWord _ _) rfl rfl) (pushedRow_singleton ht)

/-- The copies of ENTER: each word is read below BP and pushed, and it is the word from before unless one of the pushes has replaced
it. -/
theorem copyFrames_ok {n : Nat} {s : State} (hsp : WordsBelow n s.regs.sp) (hbp : WordsBelow n s.regs.bp) :
    ∃ vs t, copyFrames n s = .ok t ∧ vs.length = n ∧ PushedFrame vs s t ∧ CopiesDisplay n (2 * n) vs s := by
  induction n generalizing s with
  | zero =>
    exact ⟨[], s, rfl, rfl, pushedFrame_refl s, fun k hk => absurd hk (Nat.not_lt_zero k)⟩
  | succ n ih =>
    obtain ⟨hspEnd, hsp⟩ := wordsBelow_of_succ hsp
    obtain ⟨hbpEnd, hbp⟩ := wordsBelow_of_succ hbp
    obtain ⟨a, ha⟩ := push_ok (s := afterDisplayRead s) (s.loadWord (phys s.sregs.ss (s.regs.bp - 2))) hspEnd
    have hrow := pushedRow_display ha
    have haregs : a.regs = { s.regs with sp := s.regs.sp - 2, bp := s.regs.bp - 2 } := by rw [push_rest ha]; rfl
    have hasregs : a.sregs = s.sregs := regsAndStores_sregs hrow.rest
    obtain ⟨vs, t, ht, rfl, ⟨hvs, hregs⟩, hcopies⟩ := ih (s := a) (by rw [haregs]; exact hsp) (by rw [haregs]; exact hbp)
    refine ⟨s.loadWord _ :: vs, t, by rw [copyFrames_succ hbpEnd ha, ht], rfl,
      ⟨pushedRow_append hrow hvs, by rw [hregs, haregs]⟩, fun k hk hout => ?_⟩
    have hsplit : bytesBelow (2 * (vs.length + 1)) s.sregs.ss s.regs.sp =
        bytesBelow 2 s.sregs.ss s.regs.sp ++ bytesBelow (2 * vs.length) a.sregs.ss a.regs.sp := by
      rw [Nat.mul_add, Nat.add_comm, bytesBelow_add, hasregs, haregs]; rfl
    simp only [hsplit, List.mem_append, not_or] at hout
    cases k with
    | zero => rfl
    | succ k =>
      have hoff : s.regs.bp - BitVec.ofNat 16 (2 * (k + 1) + 2) = a.regs.bp - BitVec.ofNat 16 (2 * k + 2) := by
        rw [haregs, show 2 * (k + 1) + 2 = 2 + (2 * k + 2) by omega, sub_ofNat_add]; rfl
      rw [hoff] at hout ⊢
      rw [← loadWord_of_pushedRow hrow fun b hb => (hout b hb).1, ← hasregs]
      exact hcopies k (by omega) fun b hb => (hout b (hasregs ▸ hb)).2

/-- The display part of ENTER: the copies, and at a level above 0 the new frame's address after them. -/
theorem pushDisplay_ok {level : Nat} {s : State} (frame : Word) (hsp : WordsBelow level s.regs.sp)
    (hbp : WordsBelow (level - 1) s.regs.bp) :
    ∃ vs t, pushDisplay level frame s = .ok t ∧ vs.length = level ∧ PushedFrame vs s t ∧
      (level ≠ 0 → vs[level - 1]? = some frame) ∧ CopiesDisplay (level - 1) (2 * level) vs s := by
  cases level with
  | zero =>
    exact ⟨[], s, rfl, rfl, pushedFrame_refl s, fun h => absurd rfl h,
      fun k hk => absurd hk (Nat.not_lt_zero k)⟩
  | succ n =>
    obtain ⟨vs, a, ha, rfl, ⟨hvs, hregs⟩, hcopies⟩ := copyFrames_ok (n := n) (fun k hk => hsp k (by omega)) hbp
    have hend : a.regs.sp - 2 ≠ 0xFFFF#16 := by
      have hlast := hsp vs.length (by simp)
      rw [sub_ofNat_add] at hlast
      rwa [hvs.sp]
    obtain ⟨t, ht⟩ := push_ok frame hend
    refine ⟨vs ++ [frame], t, ?_, by simp, ⟨pushedRow_append hvs (pushedRow_singleton ht), ?_⟩, fun _ => by simp,
      fun k hk hout => ?_⟩
    · rw [pushDisplay, if_neg (Nat.succ_ne_zero _)]
      show copyFrames vs.length s >>= _ = _
      rw [ha, ok_bind, ht]
    · rw [push_rest ht, hregs]
    · have hkv : k < vs.length := hk
      rw [List.getElem?_append_left hkv]
      refine hcopies k hk fun b hb hb' => hout b hb ?_
      rw [Nat.mul_add, bytesBelow_add]
      exact List.mem_append_left _ hb'

/-! ### ENTER -/

/-- What an ENTER of level `n` leaves: BP pushed (`a`), then the display part (`b`), from whose SP the local storage is taken. -/
structure EnterFrame (v : Word) (n : Nat) (vs : List Word) (s a b t : State) : Prop where
  saved : push s.regs.bp s = .ok a
  pushed : PushedFrame vs a b
  length : vs.length = n
  frame : n ≠ 0 → vs[n - 1]? = some (s.regs.sp - 2)
  copies : CopiesDisplay (n - 1) (2 * n) vs a
  result : t = (b.setReg16 .bp a.regs.sp).setReg16 .sp (b.regs.sp - v)

theorem exec_enter {v : Word} {l : Byte} {n : Nat} {s : State} (hn : n = l.toNat % 32) (hsp : WordsBelow (n + 1) s.regs.sp)
    (hbp : WordsBelow (n - 1) s.regs.bp) : ∃ vs a b t, exec (.enter v l) s = .next t ∧ EnterFrame v n vs s a b t := by
  obtain ⟨hend, hsp⟩ := wordsBelow_of_succ hsp
  obtain ⟨a, ha⟩ := push_ok s.regs.bp hend
  have hregs : a.regs = { s.regs with sp := s.regs.sp - 2 } := by rw [push_rest ha]
  obtain ⟨vs, b, hb, hlen, hpushed, hframe, hcopies⟩ :=
    pushDisplay_ok (s := a) a.regs.sp (by rw [hregs]; exact hsp) (by rw [hregs]; exact hbp)
  refine ⟨vs, a, b, _, ?_, ha, hpushed, hlen, by rwa [hregs] at hframe, hcopies, rfl⟩
  show outcome (enterFrame v l s) = _
  rw [enterFrame, ha, ok_bind, ← hn, hb]; rfl

/-- An answer of ENTER says that the words it pushes and copies stand below offset 0FFFFH. -/
theorem enterFrame_of_exec {v : Word} {l : Byte} {s t : State} (h : exec (.enter v l) s = .next t) :
    ∃ vs a b, EnterFrame v (l.toNat % 32) vs s a b t := by
  have ht : enterFrame v l s = .ok t := outcome_eq_next.mp h
  obtain ⟨hsp, hbp⟩ := answersOrEnds_of_ok (a := t) (ht ▸ enterFrame_wordsBelow v l s)
  obtain ⟨vs, a, b, t', ht', hframe⟩ := exec_enter (v := v) rfl hsp hbp
  obtain rfl : t' = t := by rw [ht'] at h; exact Host.Outcome.next.inj h
  exact ⟨vs, a, b, hframe⟩

section Frame

variable {v : Word} {n : Nat} {vs : List Word} {s a b t : State}

theorem enterFrame_row (h : EnterFrame v n vs s a b t) : PushedRow (s.regs.bp :: vs) s b :=
  pushedRow_append (pushedRow_singleton h.saved) h.pushed.row

theorem enterFrame_sp (h : EnterFrame v n vs s a b t) : a.regs.sp = s.regs.sp - 2 := by rw [push_rest h.saved]

theorem enterFrame_regs (h : EnterFrame v n vs s a b t) :
    t.regs = { s.regs with bp := s.regs.sp - 2, sp := s.regs.sp - BitVec.ofNat 16 (2 * n + 2) - v } := by
  have hb : b.regs = { s.regs with sp := b.regs.sp, bp := b.regs.bp } := by rw [h.pushed.regs, push_rest h.saved]
  have hsp : b.regs.sp = s.regs.sp - BitVec.ofNat 16 (2 * n + 2) := by rw [(enterFrame_row h).sp, ← h.length]; rfl
  have ht : t.regs = { b.regs with bp := a.regs.sp, sp := b.regs.sp - v } := by rw [h.result]; rfl
  rw [ht, hb, hsp, enterFrame_sp h]

/-- Past the display only BP and SP are written. -/
theorem enterFrame_eq (h : EnterFrame v n vs s a b t) : t = { b with regs := t.regs } := by rw [h.result]; rfl

theorem enterFrame_rest (h : EnterFrame v n vs s a b t) : RegsAndStores s t :=
  regsAndStores_trans (enterFrame_row h).rest (by rw [enterFrame_eq h]; rfl)

/-- A word of the display that ENTER does not overwrite is copied from the frame that BP names. -/
theorem enterFrame_copies (h : EnterFrame v n vs s a b t) {k : Nat} (h0 : 0 < k) (hk : k < n)
    (hout : ∀ x ∈ wordBytes s.sregs.ss (s.regs.bp - BitVec.ofNat 16 (2 * k)),
      x ∉ bytesBelow (2 * n + 2) s.sregs.ss s.regs.sp) :
    (s.regs.bp :: vs)[k]? = some (s.loadWord (phys s.sregs.ss (s.regs.bp - BitVec.ofNat 16 (2 * k)))) := by
  obtain ⟨k, rfl⟩ : ∃ j, k = j + 1 := ⟨k - 1, by omega⟩
  have hrow := pushedRow_singleton h.saved
  have hss : a.sregs = s.sregs := regsAndStores_sregs hrow.rest
  have hbp : a.regs.bp = s.regs.bp := by rw [push_rest h.saved]
  have hsplit : bytesBelow (2 * n + 2) s.sregs.ss s.regs.sp =
      bytesBelow 2 s.sregs.ss s.regs.sp ++ bytesBelow (2 * n) a.sregs.ss a.regs.sp := by
    rw [Nat.add_comm, bytesBelow_add, hss, enterFrame_sp h]; rfl
  simp only [hsplit, List.mem_append, not_or] at hout
  have hcopy := h.copies k (by omega)
  rw [hss, hbp] at hcopy
  rw [← loadWord_of_pushedRow hrow fun x hx => (hout x hx).1]
  exact hcopy fun x hx => hss ▸ (hout x hx).2

end Frame

/-- Settles O26. -/
theorem enterMakesFrame : Obligations.EnterMakesFrame := by
  intro s v l n hn hsp hbp
  obtain ⟨vs, a, b, t, ht, h⟩ := exec_enter (v := v) hn (fun k hk => hsp k (by omega)) (fun k hk => hbp k (by omega))
  have hrow := enterFrame_row h
  have hlen : 2 * (s.regs.bp :: vs).length = 2 * n + 2 := by simp [h.length, Nat.mul_add]
  have hmem : MemSameBut (bytesBelow (2 * n + 2) s.sregs.ss s.regs.sp) s t := by
    rw [enterFrame_eq h, ← hlen]; exact ⟨hrow.memory.bytes, hrow.memory.devices⟩
  refine ⟨t, ht, ?_, ?_, hmem, fun hram => ?_⟩
  · rw [← enterFrame_regs h]; exact enterFrame_rest h
  · rw [enterFrame_eq h]; exact hrow.cycles
  · have held {k : Nat} {w : Word} (hw : (s.regs.bp :: vs)[k]? = some w) :
        heldWord t s.sregs.ss (s.regs.sp - BitVec.ofNat 16 (2 * k + 2)) = w := by
      rw [enterFrame_eq h]
      exact hrow.values (by omega) (by rw [hlen]; exact hram) k w hw
    refine ⟨held (k := 0) rfl, fun h0 => held ?_, fun hout k h0k hk => held (enterFrame_copies h h0k hk (hout k h0k hk))⟩
    rw [List.getElem?_cons, if_neg h0]
    exact h.frame h0

/-! ### LEAVE -/

theorem exec_leave {s : State} (h : s.regs.bp ≠ 0xFFFF#16) : Completes (exec .leave s) s { s with
    regs := { s.regs with bp := s.loadWord (phys s.sregs.ss s.regs.bp), sp := s.regs.bp + 2 } } := by
  have hpop := pop_ok (s := s.setReg16 .sp s.regs.bp) h
  refine ⟨_, dataCycles_readWord (s.setReg16 .sp s.regs.bp) (phys s.sregs.ss s.regs.bp), ?_⟩
  show outcome (leaveFrame s) = _
  rw [leaveFrame, hpop]; rfl

/-- The saved BP stands above all else that ENTER pushes. -/
theorem enterFrame_savedBp {v : Word} {n : Nat} {vs : List Word} {s a b t : State} (h : EnterFrame v n vs s a b t) (hn : n < 32)
    (hram : Ram (wordBytes s.sregs.ss (s.regs.sp - 2)) s) : t.loadWord (phys t.sregs.ss t.regs.bp) = s.regs.bp := by
  have hend : s.regs.sp - 2 ≠ 0xFFFF#16 := (push_eq_ok.mp h.saved).1
  have hss : t.sregs = s.sregs := regsAndStores_sregs (enterFrame_rest h)
  have hssa : a.sregs = s.sregs := by rw [push_rest h.saved]
  have houtside : ∀ x ∈ wordBytes s.sregs.ss (s.regs.sp - 2), x ∉ bytesBelow (2 * vs.length) a.sregs.ss a.regs.sp := by
    rw [enterFrame_sp h, hssa]
    exact wordBytes_not_mem_bytesBelow (k := 0) (m := 1) s.sregs.ss hend (by decide) (by rw [h.length]; omega)
  have hram' : Ram (wordBytes s.sregs.ss (s.regs.sp - 2)) t := fun x hx => by
    rw [regsAndStores_region (enterFrame_rest h)]; exact hram x hx
  calc t.loadWord (phys t.sregs.ss t.regs.bp)
      = heldWord t s.sregs.ss (s.regs.sp - 2) := by rw [hss, enterFrame_regs h]; exact loadWord_ram hram'
    _ = heldWord b s.sregs.ss (s.regs.sp - 2) := by rw [enterFrame_eq h]; rfl
    _ = heldWord a s.sregs.ss (s.regs.sp - 2) := heldWord_congr h.pushed.row.memory houtside
    _ = s.regs.bp := (push_pushed h.saved).value hram

/-- Settles O27. -/
theorem leaveUndoesEnter : Obligations.LeaveUndoesEnter := by
  refine ⟨fun s => exec_leave, fun s t v l hexec hram => ?_⟩
  obtain ⟨vs, a, b, h⟩ := enterFrame_of_exec hexec
  have hend : s.regs.sp - 2 ≠ 0xFFFF#16 := (push_eq_ok.mp h.saved).1
  have hregs := enterFrame_regs h
  have hbp : t.regs.bp = s.regs.sp - 2 := by rw [hregs]
  have hrest := enterFrame_rest h
  obtain ⟨es, -, hleave⟩ := exec_leave (s := t) (hbp ▸ hend)
  rw [enterFrame_savedBp h (Nat.mod_lt _ (by decide)) hram, hbp, BitVec.sub_add_cancel] at hleave
  have hsregs : t.sregs = s.sregs := regsAndStores_sregs hrest
  have hflags : t.flags = s.flags := by rw [hrest]
  exact ⟨_, hleave, by rw [hregs], hsregs, hflags⟩

end Sys2Proof.Proofs
end

section
/-! SUPPORT. Proofs of the statements about the two-operand forms (`41_arithmetic.md` R261): ADD, ADC, SUB, SBB and CMP, the logic
instructions of `42_bit_manipulation.md`, and the one-operand forms INC, DEC, NEG and NOT. -/

namespace Sys2Proof.Proofs

open Sys2Proof Sys2Proof.Machine Sys2Proof.Safety Sys2Proof.Laws

/-! ### An operation on a destination and a value, after memory cycles -/

theorem binop8With_byteResult {i : Instr} {op : AluOp} {dst : Rm8} {b : Byte} {s : State} {es : List BusEvent} {F : Flags → Prop}
    (hw : op.writes = true) (hes : DataCycles es) (h : exec i s = .next (binop8With op dst b (s.logEvents es)))
    (hF : F (op.apply (opByte dst s) b s.free s.flags).2) :
    ByteResult i dst (op.apply (opByte dst s) b s.free s.flags).1 F s := by
  obtain ⟨hwrote, hflags⟩ := binop8With_wrote hw dst b s hes
  exact ⟨_, h, hwrote, hflags ▸ hF⟩

theorem binop16With_wordResult {i : Instr} {op : AluOp} {dst : Rm16} {b : Word} {s : State} {es : List BusEvent} {F : Flags → Prop}
    (hw : op.writes = true) (hes : DataCycles es) (h : exec i s = outcome (binop16With op dst b (s.logEvents es)))
    (hF : F (op.apply (opWord dst s) b s.free s.flags).2) :
    WordResult i dst (op.apply (opWord dst s) b s.free s.flags).1 F s := by
  intro ha
  obtain ⟨t, ht, hwrote, hflags⟩ := binop16With_wrote hw b hes ha
  exact ⟨t, by rw [h, ht, outcome_ok], hwrote, hflags ▸ hF⟩

theorem binop8With_flagResult {i : Instr} {op : AluOp} {dst : Rm8} {b : Byte} {s : State} {es : List BusEvent} {F : Flags → Prop}
    (hw : op.writes = false) (hes : DataCycles es) (h : exec i s = .next (binop8With op dst b (s.logEvents es)))
    (hF : F (op.apply (opByte dst s) b s.free s.flags).2) : FlagResult i F s := by
  have hdst : opByte dst (s.logEvents es) = opByte dst s := opByte_congr rfl rfl rfl rfl rfl rfl dst
  rw [binop8With_flags hw, hdst] at h
  refine ⟨_, h, rfl, ⟨es ++ readCycles8 dst (s.logEvents es), dataCycles_append hes (dataCycles_read8 _ _), ?_⟩, hF⟩
  simp

theorem accessible_logEvents {rm : Rm16} {s : State} (h : Accessible rm s) (es : List BusEvent) : Accessible rm (s.logEvents es) :=
  fun m hm => by rw [ea_congr (s := s) (t := s.logEvents es) rfl m]; exact h m hm

theorem binop16With_flagResult {i : Instr} {op : AluOp} {dst : Rm16} {b : Word} {s : State} {es : List BusEvent} {F : Flags → Prop}
    (hw : op.writes = false) (hes : DataCycles es) (ha : Accessible dst s)
    (h : exec i s = outcome (binop16With op dst b (s.logEvents es)))
    (hF : F (op.apply (opWord dst s) b s.free s.flags).2) : FlagResult i F s := by
  have hdst : opWord dst (s.logEvents es) = opWord dst s := opWord_congr rfl rfl rfl rfl rfl rfl dst
  rw [binop16With_flags hw b (accessible_logEvents ha es), hdst] at h
  refine ⟨_, h, rfl, ⟨es ++ readCycles16 dst (s.logEvents es), dataCycles_append hes (dataCycles_read16 _ _), ?_⟩, hF⟩
  simp

/-! ### The eight forms of an operation -/

/-- The eight instructions are the operation in its forms: the source is read first, an immediate is not read. -/
structure RunsForms (op : AluOp) (x : TwoOperandForms) : Prop where
  rm8r8 : ∀ rm r s, exec (x.rm8r8 rm r) s = outcome (binop8 op rm (.reg r) s)
  rm16r16 : ∀ rm r s, exec (x.rm16r16 rm r) s = outcome (binop16 op rm (.reg r) s)
  r8rm8 : ∀ r rm s, exec (x.r8rm8 r rm) s = outcome (binop8 op (.reg r) rm s)
  r16rm16 : ∀ r rm s, exec (x.r16rm16 r rm) s = outcome (binop16 op (.reg r) rm s)
  alImm : ∀ i s, exec (x.alImm i) s = outcome (binop8Imm op (.reg .al) i s)
  axImm : ∀ v s, exec (x.axImm v) s = outcome (binop16Imm op (.reg .ax) v s)
  rm8Imm : ∀ rm i s, exec (x.rm8Imm rm i) s = outcome (binop8Imm op rm i s)
  rm16Imm : ∀ rm v s, exec (x.rm16Imm rm v) s = outcome (binop16Imm op rm v s)

/-- The operation writes the result `res` and sets flags as `F` says, at both widths. -/
structure Computes (op : AluOp) (res : (w : Nat) → BitVec w → BitVec w → Flags → BitVec w)
    (F : (w : Nat) → BitVec w → BitVec w → Flags → Flags → Prop) : Prop where
  writes : op.writes = true
  result : ∀ {w : Nat} (a b : BitVec w) (u : Word) (f : Flags), (op.apply a b u f).1 = res w a b f
  flags : ∀ {w : Nat} (a b : BitVec w) (u : Word) (f : Flags), F w a b f (op.apply a b u f).2

theorem binop8_eq (op : AluOp) (dst src : Rm8) (s : State) :
    binop8 op dst src s = .ok (binop8With op dst (opByte src s) (s.logEvents (readCycles8 src s))) := by
  rw [binop8, getRm8_eq]

theorem binop16_eq (op : AluOp) (dst : Rm16) {src : Rm16} {s : State} (ha : Accessible src s) :
    binop16 op dst src s = binop16With op dst (opWord src s) (s.logEvents (readCycles16 src s)) := by
  rw [binop16, getRm16_ok ha, ok_bind]

section Forms

variable {op : AluOp} {res : (w : Nat) → BitVec w → BitVec w → Flags → BitVec w}
  {F : (w : Nat) → BitVec w → BitVec w → Flags → Flags → Prop} {i : Instr} {s : State}

theorem binop8_byteResult (hc : Computes op res F) {dst src : Rm8} (h : exec i s = outcome (binop8 op dst src s)) :
    ByteResult i dst (res 8 (opByte dst s) (opByte src s) s.flags) (F 8 (opByte dst s) (opByte src s) s.flags) s := by
  rw [binop8_eq, outcome_ok] at h
  rw [← hc.result (u := s.free)]
  exact binop8With_byteResult hc.writes (dataCycles_read8 src s) h (hc.flags _ _ _ _)

theorem binop16_wordResult (hc : Computes op res F) {dst src : Rm16} (ha : Accessible src s)
    (h : exec i s = outcome (binop16 op dst src s)) :
    WordResult i dst (res 16 (opWord dst s) (opWord src s) s.flags) (F 16 (opWord dst s) (opWord src s) s.flags) s := by
  rw [binop16_eq op dst ha] at h
  rw [← hc.result (u := s.free)]
  exact binop16With_wordResult hc.writes (dataCycles_read16 src s) h (hc.flags _ _ _ _)

theorem binop8Imm_byteResult (hc : Computes op res F) {dst : Rm8} {b : Byte} (h : exec i s = outcome (binop8Imm op dst b s)) :
    ByteResult i dst (res 8 (opByte dst s) b s.flags) (F 8 (opByte dst s) b s.flags) s := by
  rw [← hc.result (u := s.free)]
  exact binop8With_byteResult hc.writes dataCycles_nil (by rw [h, logEvents_nil]; rfl) (hc.flags _ _ _ _)

theorem binop16Imm_wordResult (hc : Computes op res F) {dst : Rm16} {v : Word} (h : exec i s = outcome (binop16Imm op dst v s)) :
    WordResult i dst (res 16 (opWord dst s) v s.flags) (F 16 (opWord dst s) v s.flags) s := by
  rw [← hc.result (u := s.free)]
  exact binop16With_wordResult hc.writes dataCycles_nil (by rw [h, logEvents_nil]; rfl) (hc.flags _ _ _ _)

theorem write_of_computes {x : TwoOperandForms} (hc : Computes op res F) (hx : RunsForms op x) : x.Write res F := fun s =>
  ⟨fun rm r => binop8_byteResult (src := .reg r) hc (hx.rm8r8 rm r s),
    fun rm r => binop16_wordResult (src := .reg r) hc (accessible_reg r s) (hx.rm16r16 rm r s),
    fun r rm => binop8_byteResult (dst := .reg r) hc (hx.r8rm8 r rm s),
    fun r rm ha => binop16_wordResult (dst := .reg r) hc ha (hx.r16rm16 r rm s),
    fun i => binop8Imm_byteResult (dst := .reg .al) hc (hx.alImm i s),
    fun v => binop16Imm_wordResult (dst := .reg .ax) hc (hx.axImm v s),
    fun rm i => binop8Imm_byteResult hc (hx.rm8Imm rm i s),
    fun rm v => binop16Imm_wordResult hc (hx.rm16Imm rm v s)⟩

theorem signExtendedWrites_of_computes {x : Rm16 → Byte → Instr} (hc : Computes op res F)
    (hx : ∀ rm i s, exec (x rm i) s = outcome (binop16Imm op rm (signExt i) s)) : SignExtendedWrites x (res 16) (F 16) :=
  fun s rm i => binop16Imm_wordResult hc (hx rm i s)

end Forms

/-! ### ADD, ADC, SUB and SBB -/

theorem add_computes : Computes .add (fun _ a b _ => a + b) fun _ a b f => AddFlags a b false f where
  writes := rfl
  result a b u f := by simp [AluOp.apply]
  flags a b _ f := addW_flags a b false f

theorem adc_computes : Computes .adc (fun w a b f => a + b + BitVec.ofNat w f.cf.toNat) fun _ a b f => AddFlags a b f.cf f where
  writes := rfl
  result a b _ f := addW_fst a b f.cf f
  flags a b _ f := addW_flags a b f.cf f

theorem sub_computes : Computes .sub (fun _ a b _ => a - b) fun _ a b f => SubFlags a b false f where
  writes := rfl
  result a b u f := by simp [AluOp.apply]
  flags a b _ f := subW_flags a b false f

theorem sbb_computes : Computes .sbb (fun w a b f => a - b - BitVec.ofNat w f.cf.toNat) fun _ a b f => SubFlags a b f.cf f where
  writes := rfl
  result a b _ f := subW_fst a b f.cf f
  flags a b _ f := subW_flags a b f.cf f

/-- Settles O29. -/
theorem addAndSubtract : Obligations.AddAndSubtract := by
  refine ⟨⟨write_of_computes add_computes ?_, signExtendedWrites_of_computes add_computes fun _ _ _ => rfl,
    write_of_computes adc_computes ?_, signExtendedWrites_of_computes adc_computes fun _ _ _ => rfl⟩,
    write_of_computes sub_computes ?_, signExtendedWrites_of_computes sub_computes fun _ _ _ => rfl,
    write_of_computes sbb_computes ?_, signExtendedWrites_of_computes sbb_computes fun _ _ _ => rfl⟩
  all_goals constructor <;> intros <;> rfl

/-! ### AND, OR, XOR, TEST and NOT -/

theorem and_computes : Computes .and (fun _ a b _ => a &&& b) fun _ a b f => LogicFlags (a &&& b) f :=
  ⟨rfl, fun _ _ _ _ => rfl, fun a b u f => logicW_flags (a &&& b) u f⟩

theorem or_computes : Computes .or (fun _ a b _ => a ||| b) fun _ a b f => LogicFlags (a ||| b) f :=
  ⟨rfl, fun _ _ _ _ => rfl, fun a b u f => logicW_flags (a ||| b) u f⟩

theorem xor_computes : Computes .xor (fun _ a b _ => a ^^^ b) fun _ a b f => LogicFlags (a ^^^ b) f :=
  ⟨rfl, fun _ _ _ _ => rfl, fun a b u f => logicW_flags (a ^^^ b) u f⟩

theorem binop8_flagResult {op : AluOp} {i : Instr} {dst src : Rm8} {s : State} {F : Flags → Prop} (hw : op.writes = false)
    (h : exec i s = outcome (binop8 op dst src s)) (hF : F (op.apply (opByte dst s) (opByte src s) s.free s.flags).2) :
    FlagResult i F s :=
  binop8With_flagResult hw (dataCycles_read8 src s) (by rw [h, binop8_eq, outcome_ok]) hF

theorem binop16_flagResult {op : AluOp} {i : Instr} {dst src : Rm16} {s : State} {F : Flags → Prop} (hw : op.writes = false)
    (hd : Accessible dst s) (hs : Accessible src s) (h : exec i s = outcome (binop16 op dst src s))
    (hF : F (op.apply (opWord dst s) (opWord src s) s.free s.flags).2) : FlagResult i F s :=
  binop16With_flagResult hw (dataCycles_read16 src s) hd (by rw [h, binop16_eq op dst hs]) hF

theorem binop8Imm_flagResult {op : AluOp} {i : Instr} {dst : Rm8} {b : Byte} {s : State} {F : Flags → Prop}
    (hw : op.writes = false) (h : exec i s = outcome (binop8Imm op dst b s))
    (hF : F (op.apply (opByte dst s) b s.free s.flags).2) : FlagResult i F s :=
  binop8With_flagResult hw dataCycles_nil (by rw [h, logEvents_nil]; rfl) hF

theorem binop16Imm_flagResult {op : AluOp} {i : Instr} {dst : Rm16} {v : Word} {s : State} {F : Flags → Prop}
    (hw : op.writes = false) (ha : Accessible dst s) (h : exec i s = outcome (binop16Imm op dst v s))
    (hF : F (op.apply (opWord dst s) v s.free s.flags).2) : FlagResult i F s :=
  binop16With_flagResult hw dataCycles_nil ha (by rw [h, logEvents_nil]; rfl) hF

/-- Settles O30. -/
theorem cmpOnlySetsFlags : Obligations.CmpOnlySetsFlags := by
  intro s
  have hflags {w : Nat} (a b : BitVec w) : SubFlags a b false s.flags (AluOp.cmp.apply a b s.free s.flags).2 :=
    subW_flags a b false s.flags
  exact ⟨fun rm r => binop8_flagResult (src := .reg r) rfl rfl (hflags _ _),
    fun rm r ha => binop16_flagResult (src := .reg r) rfl ha (accessible_reg r s) rfl (hflags _ _),
    fun r rm => binop8_flagResult (dst := .reg r) rfl rfl (hflags _ _),
    fun r rm ha => binop16_flagResult (dst := .reg r) rfl (accessible_reg r s) ha rfl (hflags _ _),
    fun i => binop8Imm_flagResult (dst := .reg .al) rfl rfl (hflags _ _),
    fun v => binop16Imm_flagResult (dst := .reg .ax) rfl (accessible_reg .ax s) rfl (hflags _ _),
    fun rm i => binop8Imm_flagResult rfl rfl (hflags _ _),
    fun rm v ha => binop16Imm_flagResult rfl ha rfl (hflags _ _),
    fun rm i ha => binop16Imm_flagResult (v := signExt i) rfl ha rfl (hflags _ _)⟩

theorem not8_byteResult (rm : Rm8) (s : State) : ByteResult (.notRm8 rm) rm (~~~(opByte rm s)) (· = s.flags) s :=
  byteResult_of_setRm8 (dataCycles_read8 rm s) (by
    show outcome (not8 rm s) = _
    rw [not8, getRm8_eq, outcome_ok])

theorem not16_wordResult (rm : Rm16) (s : State) : WordResult (.notRm16 rm) rm (~~~(opWord rm s)) (· = s.flags) s := fun ha =>
  wordResult_of_setRm16 (dataCycles_read16 rm s) (by
    show outcome (not16 rm s) = _
    rw [not16, getRm16_ok ha, ok_bind]) ha

/-- Settles O38. -/
theorem logicInstructions : Obligations.LogicInstructions := by
  refine ⟨⟨write_of_computes and_computes ?_, write_of_computes or_computes ?_, write_of_computes xor_computes ?_⟩, fun s => ?tests⟩
  case tests =>
    have hflags {w : Nat} (a b : BitVec w) : LogicFlags (a &&& b) s.flags (AluOp.test.apply a b s.free s.flags).2 :=
      logicW_flags (a &&& b) s.free s.flags
    exact ⟨fun rm r => binop8_flagResult (src := .reg r) rfl rfl (hflags _ _),
      fun rm r ha => binop16_flagResult (src := .reg r) rfl ha (accessible_reg r s) rfl (hflags _ _),
      fun i => binop8Imm_flagResult (dst := .reg .al) rfl rfl (hflags _ _),
      fun v => binop16Imm_flagResult (dst := .reg .ax) rfl (accessible_reg .ax s) rfl (hflags _ _),
      fun rm i => binop8Imm_flagResult rfl rfl (hflags _ _),
      fun rm v ha => binop16Imm_flagResult rfl ha rfl (hflags _ _),
      fun rm => not8_byteResult rm s, fun rm => not16_wordResult rm s⟩
  all_goals constructor <;> intros <;> rfl

/-! ### INC, DEC and NEG -/

/-- An operand written back with new flags. -/
theorem byteResult_of_setFlags {i : Instr} {rm : Rm8} {v : Byte} {g : Flags} {F : Flags → Prop} {s : State} (hF : F g)
    (h : exec i s = .next (setRm8 rm v ((s.logEvents (readCycles8 rm s)).setFlags g))) : ByteResult i rm v F s :=
  ⟨_, h, setRm8_wrote' rm v s g s.freeCount (dataCycles_read8 rm s), by rw [setRm8_flags]; exact hF⟩

theorem wordResult_of_setFlags {i : Instr} {rm : Rm16} {v : Word} {g : Flags} {F : Flags → Prop} {s : State} (hF : F g)
    (h : Accessible rm s → exec i s = outcome (setRm16 rm v ((s.logEvents (readCycles16 rm s)).setFlags g))) :
    WordResult i rm v F s := by
  intro ha
  obtain ⟨t, ht, hwrote, hflags⟩ := setRm16_wrote' v g s.freeCount (dataCycles_read16 rm s) ha
  exact ⟨t, by rw [h ha]; exact congrArg outcome ht, hwrote, hflags ▸ hF⟩

theorem incDec8_byteResult {i : Instr} {op : StepOp} {rm : Rm8} {F : Flags → Prop} {s : State}
    (h : exec i s = outcome (incDec8 op rm s)) (hF : F (op.apply (opByte rm s) s.flags).2) :
    ByteResult i rm (op.apply (opByte rm s) s.flags).1 F s :=
  byteResult_of_setFlags hF (by rw [h, incDec8, getRm8_eq]; rfl)

theorem incDec16_wordResult {i : Instr} {op : StepOp} {rm : Rm16} {F : Flags → Prop} {s : State}
    (h : exec i s = outcome (incDec16 op rm s)) (hF : F (op.apply (opWord rm s) s.flags).2) :
    WordResult i rm (op.apply (opWord rm s) s.flags).1 F s :=
  wordResult_of_setFlags hF fun ha => by rw [h, incDec16, getRm16_ok ha]; rfl

theorem neg8_byteResult {rm : Rm8} {F : Flags → Prop} {s : State} (hF : F (subW 0#8 (opByte rm s) false s.flags).2) :
    ByteResult (.negRm8 rm) rm (-(opByte rm s)) F s := by
  refine byteResult_of_setFlags hF ?_
  show outcome (neg8 rm s) = _
  rw [neg8, getRm8_eq]
  simp

theorem neg16_wordResult {rm : Rm16} {F : Flags → Prop} {s : State} (hF : F (subW 0#16 (opWord rm s) false s.flags).2) :
    WordResult (.negRm16 rm) rm (-(opWord rm s)) F s := by
  refine wordResult_of_setFlags hF fun ha => ?_
  show outcome (neg16 rm s) = _
  rw [neg16, getRm16_ok ha]
  simp

@[simp] theorem inc_fst {w : Nat} (a : BitVec w) (f : Flags) : (StepOp.inc.apply a f).1 = a + 1#w := by simp [StepOp.apply]

@[simp] theorem dec_fst {w : Nat} (a : BitVec w) (f : Flags) : (StepOp.dec.apply a f).1 = a - 1#w := by simp [StepOp.apply]

theorem two_pow_eq_double {w : Nat} (hw : 1 < w) : 2 ^ w = 2 * 2 ^ (w - 1) := by
  rw [← Nat.pow_succ', Nat.succ_eq_add_one, Nat.sub_add_cancel (by omega)]

/-- The two readings of a pattern, by the first pattern with the sign bit. -/
theorem toInt_by_half {w : Nat} (hw : 1 < w) (a : BitVec w) :
    a.toInt = if a.toNat < 2 ^ (w - 1) then (a.toNat : Int) else a.toNat - 2 * 2 ^ (w - 1) := by
  rw [BitVec.toInt_eq_toNat_cond, two_pow_eq_double hw]
  push_cast
  simp only [Nat.mul_lt_mul_left (show 0 < 2 by decide)]

theorem toInt_eq_greatest_iff {w : Nat} (hw : 1 < w) (a : BitVec w) :
    a.toInt = 2 ^ (w - 1) - 1 ↔ a.toNat = 2 ^ (w - 1) - 1 := by
  have hpow : ((2 ^ (w - 1) : Nat) : Int) = 2 ^ (w - 1) := by simp
  have hpos : 0 < 2 ^ (w - 1) := Nat.two_pow_pos _
  have hlt := two_pow_eq_double hw ▸ a.isLt
  rw [toInt_by_half hw]
  split <;> omega

theorem toInt_eq_least_iff {w : Nat} (hw : 1 < w) (a : BitVec w) :
    a.toInt = -2 ^ (w - 1) ↔ a.toNat = 2 ^ (w - 1) := by
  have hpow : ((2 ^ (w - 1) : Nat) : Int) = 2 ^ (w - 1) := by simp
  rw [toInt_by_half hw]
  split <;> omega

theorem saddOverflow_one {w : Nat} (hw : 1 < w) (a : BitVec w) : a.saddOverflow 1#w = decide (a.toNat = 2 ^ (w - 1) - 1) := by
  rw [Bool.eq_iff_iff, decide_eq_true_iff, ← toInt_eq_greatest_iff hw, saddOverflow_iff_not_fits, FitsSigned, BitVec.toInt_one hw]
  have := a.le_toInt
  have := a.toInt_lt
  omega

theorem ssubOverflow_one {w : Nat} (hw : 1 < w) (a : BitVec w) : a.ssubOverflow 1#w = decide (a.toNat = 2 ^ (w - 1)) := by
  rw [Bool.eq_iff_iff, decide_eq_true_iff, ← toInt_eq_least_iff hw, ssubOverflow_iff_not_fits, FitsSigned, BitVec.toInt_one hw]
  have := a.le_toInt
  have := a.toInt_lt
  omega

theorem zero_ssubOverflow {w : Nat} (hw : 1 < w) (a : BitVec w) : (0#w).ssubOverflow a = decide (a.toNat = 2 ^ (w - 1)) := by
  rw [Bool.eq_iff_iff, decide_eq_true_iff, ← toInt_eq_least_iff hw, ssubOverflow_iff_not_fits, FitsSigned, BitVec.toInt_zero]
  have := a.le_toInt
  have := a.toInt_lt
  omega

theorem toNat_one {w : Nat} (hw : 1 < w) : (1#w).toNat = 1 :=
  Nat.mod_eq_of_lt (Nat.one_lt_two_pow (by omega))

/-- INC: only the greatest signed number overflows, and only the low digit 15 carries (R264). -/
theorem inc_flags {w : Nat} (hw : 1 < w) (a : BitVec w) (f : Flags) :
    (StepOp.inc.apply a f).2.ofl = decide (a.toNat = 2 ^ (w - 1) - 1) ∧
      (StepOp.inc.apply a f).2.af = decide (a.toNat % 16 = 15) ∧ ResultFlags (a + 1#w) (StepOp.inc.apply a f).2 ∧
      (StepOp.inc.apply a f).2.cf = f.cf ∧ ControlKept f (StepOp.inc.apply a f).2 := by
  have hadd := addW_flags a 1#w false f
  have haf : (addW a 1#w false f).2.af = decide (a.toNat % 16 = 15) := by
    rw [hadd.af, toNat_one hw, Bool.toNat_false, decide_eq_decide]; omega
  have hres := hadd.result
  rw [Bool.toNat_false, BitVec.add_zero] at hres
  exact ⟨(addW_ofl a 1#w f).trans (saddOverflow_one hw a), haf, ⟨hres.sf, hres.zf, hres.pf⟩, rfl, rfl, rfl, rfl⟩

/-- DEC: only the least signed number overflows, and only the low digit 0 borrows (R269). -/
theorem dec_flags {w : Nat} (hw : 1 < w) (a : BitVec w) (f : Flags) :
    (StepOp.dec.apply a f).2.ofl = decide (a.toNat = 2 ^ (w - 1)) ∧
      (StepOp.dec.apply a f).2.af = decide (a.toNat % 16 = 0) ∧ ResultFlags (a - 1#w) (StepOp.dec.apply a f).2 ∧
      (StepOp.dec.apply a f).2.cf = f.cf ∧ ControlKept f (StepOp.dec.apply a f).2 := by
  have hsub := subW_flags a 1#w false f
  have haf : (subW a 1#w false f).2.af = decide (a.toNat % 16 = 0) := by
    rw [hsub.af, toNat_one hw, Bool.toNat_false, decide_eq_decide]; omega
  have hres := hsub.result
  rw [Bool.toNat_false, BitVec.sub_zero] at hres
  exact ⟨(subW_ofl a 1#w f).trans (ssubOverflow_one hw a), haf, ⟨hres.sf, hres.zf, hres.pf⟩, rfl, rfl, rfl, rfl⟩

/-- NEG: every number but 0 borrows, and only the least signed number overflows (R270). -/
theorem neg_flags {w : Nat} (hw : 1 < w) (a : BitVec w) (f : Flags) :
    (subW 0#w a false f).2.cf = decide (a.toNat ≠ 0) ∧ (subW 0#w a false f).2.ofl = decide (a.toNat = 2 ^ (w - 1)) ∧
      (subW 0#w a false f).2.af = decide (a.toNat % 16 ≠ 0) ∧ ResultFlags (-a) (subW 0#w a false f).2 ∧
      ControlKept f (subW 0#w a false f).2 := by
  have hsub := subW_flags 0#w a false f
  have hres := hsub.result
  rw [Bool.toNat_false, BitVec.sub_zero, BitVec.zero_sub] at hres
  refine ⟨?_, (subW_ofl 0#w a f).trans (zero_ssubOverflow hw a), ?_, hres, hsub.control⟩
  · rw [hsub.cf, BitVec.toNat_zero, Bool.toNat_false, decide_eq_decide]; omega
  · rw [hsub.af, BitVec.toNat_zero, Bool.toNat_false, decide_eq_decide]; omega

/-- Settles O32. -/
theorem incDecNeg : Obligations.IncDecNeg := by
  refine ⟨fun s => ⟨fun r => ?_, fun rm => ?_, fun rm => ?_, fun r => ?_, fun rm => ?_, fun rm => ?_⟩,
    fun s => ⟨fun rm => neg8_byteResult (neg_flags (by decide) _ _), fun rm => neg16_wordResult (neg_flags (by decide) _ _)⟩⟩
  · exact inc_fst (s.reg16 r) s.flags ▸ incDec16_wordResult (rm := .reg r) rfl (inc_flags (by decide) _ _)
  · exact inc_fst (opByte rm s) s.flags ▸ incDec8_byteResult rfl (inc_flags (by decide) _ _)
  · exact inc_fst (opWord rm s) s.flags ▸ incDec16_wordResult rfl (inc_flags (by decide) _ _)
  · exact dec_fst (s.reg16 r) s.flags ▸ incDec16_wordResult (rm := .reg r) rfl (dec_flags (by decide) _ _)
  · exact dec_fst (opByte rm s) s.flags ▸ incDec8_byteResult rfl (dec_flags (by decide) _ _)
  · exact dec_fst (opWord rm s) s.flags ▸ incDec16_wordResult rfl (dec_flags (by decide) _ _)

end Sys2Proof.Proofs
end

section
/-! SUPPORT. Proofs of the statements about multiplication and division (`41_arithmetic.md` R274 to R276, R278, R279). -/

namespace Sys2Proof.Proofs

open Sys2Proof Sys2Proof.Machine Sys2Proof.Safety Sys2Proof.Laws

/-! ### Halves and signed numbers -/

theorem toNat_lowByte (v : Word) : (lowByte v).toNat = v.toNat % 256 := BitVec.toNat_setWidth _ _

theorem toNat_highByte (v : Word) : (highByte v).toNat = v.toNat / 256 := by
  have := v.isLt
  rw [highByte, BitVec.toNat_setWidth, BitVec.toNat_ushiftRight, Nat.shiftRight_eq_div_pow]
  omega

theorem lowByte_ofInt (p : Int) : lowByte (BitVec.ofInt 16 p) = BitVec.ofInt 8 p := by
  apply BitVec.eq_of_toNat_eq
  simp only [toNat_lowByte, BitVec.toNat_ofInt]
  omega

theorem append_ofInt (p : Int) : (BitVec.ofInt 16 (p / 2 ^ 16) ++ BitVec.ofInt 16 p : BitVec 32) = BitVec.ofInt 32 p := by
  apply BitVec.eq_of_toNat_eq
  rw [BitVec.toNat_append, ← Nat.shiftLeft_add_eq_or_of_lt (BitVec.isLt _), Nat.shiftLeft_eq]
  simp only [BitVec.toNat_ofInt]
  omega

theorem toInt_ofInt_of_fits {w : Nat} {p : Int} (hw : 0 < w) (h : FitsSigned w p) : (BitVec.ofInt w p).toInt = p :=
  BitVec.toInt_ofInt_eq_self hw h.1 h.2

/-- `w` bits lose exactly the numbers that do not fit. -/
theorem bne_toInt_ofInt_iff {w : Nat} (hw : 0 < w) (p : Int) : (p != (BitVec.ofInt w p).toInt) = true ↔ ¬FitsSigned w p := by
  rw [bne_iff_ne]
  refine not_congr ⟨fun h => ?_, fun h => (toInt_ofInt_of_fits hw h).symm⟩
  rw [h]
  exact ⟨BitVec.le_toInt _, BitVec.toInt_lt⟩

/-- Of a number that fits `v` bits, its lower half is the whole when it is the number sign-extended. -/
theorem bne_toInt_ofInt_half {w v : Nat} (hv : w ≤ v) {p : Int} (hp : (BitVec.ofInt v p).toInt = p) :
    (p != (BitVec.ofInt w p).toInt) = decide (BitVec.ofInt v p ≠ (BitVec.ofInt w p).signExtend v) := by
  rw [Bool.eq_iff_iff, bne_iff_ne, decide_eq_true_iff, Ne, Ne, ← BitVec.toInt_inj, hp, BitVec.toInt_signExtend_of_le hv]

/-- The product of two signed numbers fits the double width. -/
theorem toInt_ofInt_mul {w : Nat} (hw : 0 < w) (a b : BitVec w) :
    (BitVec.ofInt (w * 2) (a.toInt * b.toInt)).toInt = a.toInt * b.toInt := by
  have hle := BitVec.le_toInt_mul_toInt (x := a) (y := b)
  have hge := BitVec.toInt_mul_toInt_le (x := a) (y := b)
  have hdouble : (2 : Int) ^ (w * 2 - 1) = 2 ^ (w * 2 - 2) * 2 := by rw [← Int.pow_succ]; congr 1; omega
  have hpos : (0 : Int) < 2 ^ (w * 2 - 2) := Int.pow_pos (by decide)
  exact toInt_ofInt_of_fits (by omega) ⟨by omega, by omega⟩

theorem toInt_ne_zero {w : Nat} {d : BitVec w} (h : d ≠ 0#w) : d.toInt ≠ 0 := by
  rwa [← BitVec.toInt_zero, Ne, BitVec.toInt_inj]

/-- The remainder of a truncating division fits the divisor's width (R279). -/
theorem toInt_ofInt_tmod {w : Nat} (hw : 0 < w) (n : Int) {d : BitVec w} (hd : d ≠ 0#w) :
    (BitVec.ofInt w (n.tmod d.toInt)).toInt = n - d.toInt * n.tdiv d.toInt := by
  have hmod : (n.tmod d.toInt).natAbs < d.toInt.natAbs := by
    rw [Int.natAbs_tmod]
    exact Nat.mod_lt _ (Int.natAbs_pos.mpr (toInt_ne_zero hd))
  have hle := d.le_toInt
  have hlt := d.toInt_lt
  rw [toInt_ofInt_of_fits hw ⟨by omega, by omega⟩, Int.tmod_def]

/-! ### MUL and IMUL -/

theorem afterMul_control (f : Flags) (c : Bool) (u : Word) : ControlKept f (f.afterMul c u) := ⟨rfl, rfl, rfl⟩

/-- What MUL and IMUL of a byte leave: the product's word in AX. -/
def afterMul8 (rm : Rm8) (s : State) (p : Word) (c : Bool) : State :=
  (((s.logEvents (readCycles8 rm s)).setReg16 .ax p).setFlags (s.flags.afterMul c s.free)).nextFree

/-- What they leave for a word: the product in DX and AX. -/
def afterMul16 (rm : Rm16) (s : State) (hi lo : Word) (c : Bool) : State :=
  ((((s.logEvents (readCycles16 rm s)).setReg16 .ax lo).setReg16 .dx hi).setFlags (s.flags.afterMul c s.free)).nextFree

theorem exec_mulRm8 {rm : Rm8} {s : State} {p : Nat} (hp : p = (s.reg8 .al).toNat * (opByte rm s).toNat) :
    exec (.mulRm8 rm) s = .next (afterMul8 rm s (BitVec.ofNat 16 p) (decide (2 ^ 8 ≤ p))) := by
  show outcome (mul8 rm s) = _
  rw [mul8, getRm8_eq, hp]; rfl

theorem exec_mulRm16 {rm : Rm16} {s : State} {p : Nat} (ha : Accessible rm s) (hp : p = s.regs.ax.toNat * (opWord rm s).toNat) :
    exec (.mulRm16 rm) s = .next (afterMul16 rm s (BitVec.ofNat 16 (p / 2 ^ 16)) (BitVec.ofNat 16 p) (decide (2 ^ 16 ≤ p))) := by
  show outcome (mul16 rm s) = _
  rw [mul16, getRm16_ok ha, hp]; rfl

theorem exec_imulRm8 {rm : Rm8} {s : State} {p : Int} (hp : p = (s.reg8 .al).toInt * (opByte rm s).toInt) :
    exec (.imulRm8 rm) s = .next (afterMul8 rm s (BitVec.ofInt 16 p) (p != (BitVec.ofInt 8 p).toInt)) := by
  show outcome (imul8 rm s) = _
  rw [imul8, getRm8_eq, hp]; rfl

theorem exec_imulRm16 {rm : Rm16} {s : State} {p : Int} (ha : Accessible rm s) (hp : p = s.regs.ax.toInt * (opWord rm s).toInt) :
    exec (.imulRm16 rm) s = .next
      (afterMul16 rm s (BitVec.ofInt 16 (p / 2 ^ 16)) (BitVec.ofInt 16 p) (p != (BitVec.ofInt 16 p).toInt)) := by
  show outcome (imul16 rm s) = _
  rw [imul16, getRm16_ok ha, hp]; rfl

theorem imulImm_eq (r : Reg16) {rm : Rm16} {s : State} {v : Word} {p : Int} (ha : Accessible rm s)
    (hp : p = (opWord rm s).toInt * v.toInt) : imulImm r rm v s =
      .ok (((s.logEvents (readCycles16 rm s)).setReg16 r (BitVec.ofInt 16 p)).setFlags
        (s.flags.afterMul (p != (BitVec.ofInt 16 p).toInt) s.free)).nextFree := by
  rw [imulImm, getRm16_ok ha, hp]; rfl

theorem afterMul8_cycles (rm : Rm8) (s : State) (p : Word) (c : Bool) : OnlyDataCycles s (afterMul8 rm s p c) :=
  ⟨_, dataCycles_read8 rm s, rfl⟩

theorem afterMul16_cycles (rm : Rm16) (s : State) (hi lo : Word) (c : Bool) : OnlyDataCycles s (afterMul16 rm s hi lo c) :=
  ⟨_, dataCycles_read16 rm s, rfl⟩

/-- The unsigned product of two bytes as a word, and when its upper half is not 0. -/
theorem mul8_product {p : Nat} {a b : Byte} (hp : p = a.toNat * b.toNat) :
    (BitVec.ofNat 16 p).toNat = p ∧ decide (2 ^ 8 ≤ p) = decide (highByte (BitVec.ofNat 16 p) ≠ 0) := by
  have hlt : p < 2 ^ 8 * 2 ^ 8 := hp ▸ Nat.mul_lt_mul'' a.isLt b.isLt
  have hword : (BitVec.ofNat 16 p).toNat = p := Nat.mod_eq_of_lt hlt
  refine ⟨hword, decide_eq_decide.mpr ?_⟩
  rw [Ne, ← BitVec.toNat_inj, toNat_highByte, hword]
  simp only [BitVec.ofNat_eq_ofNat, BitVec.toNat_zero]
  omega

theorem mul16_product {p : Nat} {a b : Word} (hp : p = a.toNat * b.toNat) :
    (BitVec.ofNat 16 (p / 2 ^ 16)).toNat * 2 ^ 16 + (BitVec.ofNat 16 p).toNat = p ∧
      decide (2 ^ 16 ≤ p) = decide (BitVec.ofNat 16 (p / 2 ^ 16) ≠ 0) := by
  have hlt : p < 2 ^ 16 * 2 ^ 16 := hp ▸ Nat.mul_lt_mul'' a.isLt b.isLt
  have hupper : (BitVec.ofNat 16 (p / 2 ^ 16)).toNat = p / 2 ^ 16 := Nat.mod_eq_of_lt (by omega)
  refine ⟨by rw [hupper, BitVec.toNat_ofNat]; omega, decide_eq_decide.mpr ?_⟩
  rw [Ne, ← BitVec.toNat_inj, hupper]
  simp only [BitVec.ofNat_eq_ofNat, BitVec.toNat_zero]
  omega

/-- The signed product of two bytes as a word, and when its lower half is not the whole. -/
theorem imul8_product {p : Int} {a b : Byte} (hp : p = a.toInt * b.toInt) :
    (BitVec.ofInt 16 p).toInt = p ∧ (p != (BitVec.ofInt 8 p).toInt) =
      decide (BitVec.ofInt 16 p ≠ (lowByte (BitVec.ofInt 16 p)).signExtend 16) := by
  have hprod : (BitVec.ofInt 16 p).toInt = p := hp ▸ toInt_ofInt_mul (by decide) a b
  rw [lowByte_ofInt]
  exact ⟨hprod, bne_toInt_ofInt_half (by decide) hprod⟩

theorem imul16_product {p : Int} {a b : Word} (hp : p = a.toInt * b.toInt) :
    (BitVec.ofInt 16 (p / 2 ^ 16) ++ BitVec.ofInt 16 p : BitVec 32).toInt = p ∧ (p != (BitVec.ofInt 16 p).toInt) =
      decide ((BitVec.ofInt 16 (p / 2 ^ 16) ++ BitVec.ofInt 16 p : BitVec 32) ≠ (BitVec.ofInt 16 p).signExtend 32) := by
  have hprod : (BitVec.ofInt 32 p).toInt = p := hp ▸ toInt_ofInt_mul (by decide) a b
  rw [append_ofInt]
  exact ⟨hprod, bne_toInt_ofInt_half (by decide) hprod⟩

/-- Settles O33. -/
theorem multiplication : Obligations.Multiplication := by
  refine ⟨fun s => ⟨fun rm => ?mul8, fun rm ha => ?mul16⟩, fun s => ⟨fun rm => ?imul8, fun rm ha => ?imul16,
    fun r rm v i j hi ha => ?imulImm⟩⟩
  case mul8 =>
    obtain ⟨hprod, hcarry⟩ := mul8_product (a := s.reg8 .al) (b := opByte rm s) rfl
    exact ⟨_, exec_mulRm8 rfl, rfl, afterMul8_cycles _ _ _ _, hprod, hcarry, rfl, afterMul_control _ _ _⟩
  case mul16 =>
    obtain ⟨hprod, hcarry⟩ := mul16_product (a := s.regs.ax) (b := opWord rm s) rfl
    exact ⟨_, exec_mulRm16 ha rfl, rfl, afterMul16_cycles _ _ _ _ _, hprod, hcarry, rfl, afterMul_control _ _ _⟩
  case imul8 =>
    obtain ⟨hprod, hcarry⟩ := imul8_product (a := s.reg8 .al) (b := opByte rm s) rfl
    exact ⟨_, exec_imulRm8 rfl, rfl, afterMul8_cycles _ _ _ _, hprod, hcarry, rfl, afterMul_control _ _ _⟩
  case imul16 =>
    obtain ⟨hprod, hcarry⟩ := imul16_product (a := s.regs.ax) (b := opWord rm s) rfl
    exact ⟨_, exec_imulRm16 ha rfl, rfl, afterMul16_cycles _ _ _ _ _, hprod, hcarry, rfl, afterMul_control _ _ _⟩
  case imulImm =>
    have hexec : exec i s = outcome (imulImm r rm v s) := by
      rcases hi with rfl | ⟨rfl, rfl⟩ <;> rfl
    rw [imulImm_eq r ha rfl, outcome_ok] at hexec
    refine ⟨_, hexec, ?_, ⟨_, dataCycles_read16 rm s, by simp⟩, reg16_setReg16_same _ r _,
      fun x hx => reg16_setReg16_ne (s.logEvents _) _ hx, ?_, rfl, afterMul_control _ _ _⟩
    · rw [setReg16_rest]; rfl
    · refine Bool.eq_iff_iff.mpr ((bne_toInt_ofInt_iff (by decide) _).trans ?_)
      rw [decide_eq_true_iff, FitsSigned]
      omega

/-! ### DIV and IDIV -/

theorem divFlags_control (s : State) : ControlKept s.flags s.divFlags.flags := ⟨rfl, rfl, rfl⟩

/-- What a division by a byte leaves: the quotient in AL, the remainder in AH. -/
def afterDiv8 (rm : Rm8) (s : State) (q r : Byte) : State :=
  ((s.logEvents (readCycles8 rm s)).divFlags.setReg8 .al q).setReg8 .ah r

/-- What a division by a word leaves: the quotient in AX, the remainder in DX. -/
def afterDiv16 (rm : Rm16) (s : State) (q r : Word) : State :=
  ((s.logEvents (readCycles16 rm s)).divFlags.setReg16 .ax q).setReg16 .dx r

theorem afterDiv8_al (rm : Rm8) (s : State) (q r : Byte) : (afterDiv8 rm s q r).reg8 .al = q := by
  rw [afterDiv8, reg8_setReg8_ne _ _ (by decide), reg8_setReg8_same]

theorem afterDiv8_ah (rm : Rm8) (s : State) (q r : Byte) : (afterDiv8 rm s q r).reg8 .ah = r := reg8_setReg8_same _ .ah r

theorem afterDiv8_cycles (rm : Rm8) (s : State) (q r : Byte) : OnlyDataCycles s (afterDiv8 rm s q r) :=
  ⟨_, dataCycles_read8 rm s, rfl⟩

theorem afterDiv16_cycles (rm : Rm16) (s : State) (q r : Word) : OnlyDataCycles s (afterDiv16 rm s q r) :=
  ⟨_, dataCycles_read16 rm s, rfl⟩

theorem div_mod_of_eq {n d q r : Nat} (hn : n = q * d + r) (hr : r < d) : n / d = q ∧ n % d = r :=
  (Nat.div_mod_unique (Nat.zero_lt_of_lt hr)).mpr ⟨by rw [hn, Nat.add_comm, Nat.mul_comm], hr⟩

theorem exec_divRm8 {rm : Rm8} {s : State} {q r : Nat} (hn : s.regs.ax.toNat = q * (opByte rm s).toNat + r)
    (hr : r < (opByte rm s).toNat) (hq : q ≤ 0xFF) :
    exec (.divRm8 rm) s = .next (afterDiv8 rm s (BitVec.ofNat 8 q) (BitVec.ofNat 8 r)) := by
  obtain ⟨rfl, rfl⟩ := div_mod_of_eq hn hr
  have hok : ¬((opByte rm s).toNat = 0 ∨ 0xFF < s.regs.ax.toNat / (opByte rm s).toNat) := by omega
  show outcome (div8 rm s) = _
  rw [div8, getRm8_eq]
  exact congrArg outcome (if_neg hok)

theorem exec_divRm16 {rm : Rm16} {s : State} {q r : Nat} (ha : Accessible rm s)
    (hn : s.regs.dx.toNat * 2 ^ 16 + s.regs.ax.toNat = q * (opWord rm s).toNat + r) (hr : r < (opWord rm s).toNat)
    (hq : q ≤ 0xFFFF) : exec (.divRm16 rm) s = .next (afterDiv16 rm s (BitVec.ofNat 16 q) (BitVec.ofNat 16 r)) := by
  obtain ⟨rfl, rfl⟩ := div_mod_of_eq hn hr
  have hok : ¬((opWord rm s).toNat = 0 ∨
      0xFFFF < (s.regs.dx.toNat * 2 ^ 16 + s.regs.ax.toNat) / (opWord rm s).toNat) := by omega
  show outcome (div16 rm s) = _
  rw [div16, getRm16_ok ha, ok_bind]
  exact congrArg outcome (if_neg hok)

/-- A quotient inside the range that is certain fits, whatever is done with the bound itself (log 12). -/
theorem quotientFits_eq_true {w : Nat} {q : Int} (h : -(2 ^ (w - 1)) < q) (h' : q < 2 ^ (w - 1)) : quotientFits w q = true := by
  simp [quotientFits, h, h']

theorem exec_idivRm8 {rm : Rm8} {s : State} {q : Int} (hd : opByte rm s ≠ 0) (hq : q = s.regs.ax.toInt.tdiv (opByte rm s).toInt)
    (hfits : quotientFits 8 q = true) : exec (.idivRm8 rm) s =
      .next (afterDiv8 rm s (BitVec.ofInt 8 q) (BitVec.ofInt 8 (s.regs.ax.toInt.tmod (opByte rm s).toInt))) := by
  subst hq
  show outcome (idiv8 rm s) = _
  rw [idiv8, getRm8_eq]
  exact congrArg outcome (if_neg (by simp [hfits, toInt_ne_zero hd]))

theorem exec_idivRm16 {rm : Rm16} {s : State} {n q : Int} (ha : Accessible rm s) (hd : opWord rm s ≠ 0)
    (hn : n = (s.regs.dx ++ s.regs.ax : BitVec 32).toInt) (hq : q = n.tdiv (opWord rm s).toInt)
    (hfits : quotientFits 16 q = true) : exec (.idivRm16 rm) s =
      .next (afterDiv16 rm s (BitVec.ofInt 16 q) (BitVec.ofInt 16 (n.tmod (opWord rm s).toInt))) := by
  subst hq hn
  show outcome (idiv16 rm s) = _
  rw [idiv16, getRm16_ok ha, ok_bind]
  exact congrArg outcome (if_neg (by simp [hfits, toInt_ne_zero hd]))

/-- Settles O34. -/
theorem division : Obligations.Division := by
  refine ⟨fun s => ⟨fun rm q r hd hn hr hq => ?div8, fun rm q r ha hd hn hr hq => ?div16⟩,
    fun s => ⟨fun rm hd hlo hhi => ?idiv8, fun rm n hn ha hd hlo hhi => ?idiv16⟩⟩
  case div8 =>
    have hbyte := (opByte rm s).isLt
    refine ⟨_, exec_divRm8 hn hr hq, ?_, ?_, rfl, afterDiv8_cycles _ _ _ _, divFlags_control s⟩
    · rw [afterDiv8_al]; exact Nat.mod_eq_of_lt (by omega)
    · rw [afterDiv8_ah]; exact Nat.mod_eq_of_lt (by omega)
  case div16 =>
    have hword := (opWord rm s).isLt
    exact ⟨_, exec_divRm16 ha hn hr hq, Nat.mod_eq_of_lt (by omega), Nat.mod_eq_of_lt (by omega), rfl,
      afterDiv16_cycles _ _ _ _, divFlags_control s⟩
  case idiv8 =>
    refine ⟨_, exec_idivRm8 hd rfl (quotientFits_eq_true (by omega) (by omega)), ?_, ?_, rfl, afterDiv8_cycles _ _ _ _,
      divFlags_control s⟩
    · rw [afterDiv8_al]; exact toInt_ofInt_of_fits (by decide) ⟨by omega, by omega⟩
    · rw [afterDiv8_ah]; exact toInt_ofInt_tmod (by decide) _ hd
  case idiv16 =>
    exact ⟨_, exec_idivRm16 ha hd hn rfl (quotientFits_eq_true (by omega) (by omega)),
      toInt_ofInt_of_fits (by decide) ⟨by omega, by omega⟩, toInt_ofInt_tmod (by decide) n hd, rfl,
      afterDiv16_cycles _ _ _ _, divFlags_control s⟩

end Sys2Proof.Proofs
end

section
/-! SUPPORT. The interrupt sequence (`60_exceptions.md` R510) where nothing stops it, and the proof of the statement about divide
errors and BOUND (R524, R527). -/

namespace Sys2Proof.Proofs

open Sys2Proof Sys2Proof.Machine Sys2Proof.Safety Sys2Proof.Laws

/-! ### The interrupt sequence -/

theorem frameBytes_eq (s : State) : frameBytes s = wordBytes s.sregs.ss (s.regs.sp - 2) ++
    (wordBytes s.sregs.ss (s.regs.sp - 4) ++ wordBytes s.sregs.ss (s.regs.sp - 6)) := rfl

theorem frameOverlaps_eq_false {n : Byte} {s : State} (h : ∀ a ∈ frameBytes s, ¬(4 * n.toNat ≤ a ∧ a < 4 * n.toNat + 4)) :
    frameOverlaps n s = false := by
  simpa [frameOverlaps] using h

/-- Words at offsets that differ by more than one share no byte. -/
theorem wordBytes_disjoint {x y : Word} (seg : Word) (hx : x ≠ 0xFFFF#16) (hy : y ≠ 0xFFFF#16) (h : x ≠ y) (hxy : x ≠ y + 1#16)
    (hyx : y ≠ x + 1#16) : ∀ a ∈ wordBytes seg x, a ∉ wordBytes seg y := by
  simp only [wordBytes, nextAddr_phys seg hx, nextAddr_phys seg hy, List.mem_cons, List.not_mem_nil, or_false]
  rintro a (rfl | rfl)
  · simp [phys_inj, h, hxy]
  · simp [phys_inj, h, hyx.symm]

/-- The push from `t` to `u`, inside an entry that began in `s`, puts `v` at `k` bytes below the SP of `s`. -/
structure FrameWord (k v : Word) (s t u : State) : Prop where
  sregs : u.sregs = s.sregs
  region : u.region = s.region
  sp : u.regs.sp = s.regs.sp - k
  cycles : OnlyDataCycles t u
  value : Ram (wordBytes s.sregs.ss (s.regs.sp - k)) s → heldWord u s.sregs.ss (s.regs.sp - k) = v
  memory : MemSameBut (wordBytes s.sregs.ss (s.regs.sp - k)) t u

theorem push_frameWord {k v : Word} {s t : State} (hsregs : t.sregs = s.sregs) (hregion : t.region = s.region)
    (hsp : t.regs.sp - 2 = s.regs.sp - k) (hend : s.regs.sp - k ≠ 0xFFFF#16) :
    ∃ u, push v t = .ok u ∧ FrameWord k v s t u ∧ u.ip = t.ip := by
  obtain ⟨u, hu⟩ := push_ok v (hsp ▸ hend)
  have hrest := push_rest hu
  obtain ⟨-, hcycles, hvalue, hmemory⟩ := push_pushed hu
  rw [hsregs, hsp] at hvalue hmemory
  have hregion' : u.region = t.region := by rw [hrest]; rfl
  exact ⟨u, hu, ⟨by rw [hrest, hsregs], hregion'.trans hregion, by rw [hrest, hsp], hcycles,
    fun hram => hvalue fun a ha => hregion ▸ hram a ha, hmemory⟩, by rw [hrest]⟩

section Frame

variable {psw cs ip : Word} {f : Flags} {s t a b c : State}

theorem frame_below (hpsw : FrameWord 2 psw s t a) (hcs : FrameWord 4 cs s (a.setFlags f) b) (hip : FrameWord 6 ip s b c) :
    MemSameBut (wordBytes s.sregs.ss (s.regs.sp - 4) ++ wordBytes s.sregs.ss (s.regs.sp - 6)) a c :=
  memSame_trans ⟨hcs.memory.bytes, hcs.memory.devices⟩ hip.memory (hcs.region.trans hpsw.region.symm)

theorem frame_memory (hpsw : FrameWord 2 psw s t a) (hcs : FrameWord 4 cs s (a.setFlags f) b) (hip : FrameWord 6 ip s b c)
    (ht : t.region = s.region) : MemSameBut (frameBytes s) t c :=
  frameBytes_eq s ▸ memSame_trans hpsw.memory (frame_below hpsw hcs hip) (hpsw.region.trans ht.symm)

/-- The later pushes leave the earlier words of the frame alone. -/
theorem frame_held (hend2 : s.regs.sp - 2 ≠ 0xFFFF#16) (hend4 : s.regs.sp - 4 ≠ 0xFFFF#16) (hend6 : s.regs.sp - 6 ≠ 0xFFFF#16)
    (hpsw : FrameWord 2 psw s t a) (hcs : FrameWord 4 cs s (a.setFlags f) b) (hip : FrameWord 6 ip s b c)
    (hram : Ram (frameBytes s) s) :
    heldWord c s.sregs.ss (s.regs.sp - 6) = ip ∧ heldWord c s.sregs.ss (s.regs.sp - 4) = cs ∧
      heldWord c s.sregs.ss (s.regs.sp - 2) = psw := by
  simp only [frameBytes_eq, Ram, List.forall_mem_append] at hram
  obtain ⟨hram2, hram4, hram6⟩ := hram
  have hcs_ip := wordBytes_disjoint s.sregs.ss hend4 hend6 (by bv_omega) (by bv_omega) (by bv_omega)
  have hpsw_cs := wordBytes_disjoint s.sregs.ss hend2 hend4 (by bv_omega) (by bv_omega) (by bv_omega)
  have hpsw_ip := wordBytes_disjoint s.sregs.ss hend2 hend6 (by bv_omega) (by bv_omega) (by bv_omega)
  refine ⟨hip.value hram6, (heldWord_congr hip.memory hcs_ip).trans (hcs.value hram4),
    (heldWord_congr (frame_below hpsw hcs hip) fun x hx h => ?_).trans (hpsw.value hram2)⟩
  exact (List.mem_append.mp h).elim (hpsw_cs x hx) (hpsw_ip x hx)

end Frame

/-- Where no word of the frame is at offset 0FFFFH and the frame is not over the vector, the sequence runs (R510). -/
theorem enter_entered {n : Byte} {s : State} (h : EntryOk n s) : ∃ t, enter n s = .ok t ∧ Entered n s.ip s t := by
  obtain ⟨hend2, hend4, hend6, hover⟩ := h
  have hvector := dataCycles_append (dataCycles_readWord s (4 * n.toNat)) (dataCycles_readWord s (4 * n.toNat + 2))
  obtain ⟨a, ha, hpsw, hipa⟩ := push_frameWord (k := 2) (v := s.flags.image s.free) (s := s)
    (t := (s.logEvents (s.wordReadCycles (4 * n.toNat) ++ s.wordReadCycles (4 * n.toNat + 2))).nextFree) rfl rfl rfl hend2
  obtain ⟨b, hb, hcs, hipb⟩ := push_frameWord (k := 4) (v := a.sregs.cs) (s := s)
    (t := a.setFlags { a.flags with tf := false, ifl := false }) hpsw.sregs hpsw.region
    (by rw [setFlags_regs, hpsw.sp]; bv_omega) hend4
  obtain ⟨c, hc, hip, -⟩ := push_frameWord (k := 6) (v := b.ip) (s := s) hcs.sregs hcs.region (by rw [hcs.sp]; bv_omega) hend6
  have henter := enter_eq_ok.mpr ⟨frameOverlaps_eq_false hover, a, b, c, ha, hb, hc, rfl⟩
  have hrest := enter_rest henter
  have hmemory := frame_memory hpsw hcs hip rfl
  refine ⟨_, henter, hrest.trans ?_, ?_, fun _ => ⟨rfl, rfl⟩, fun hram => ?_, hmemory.bytes, hmemory.devices⟩
  · rw [← show _ = s.freeCount + 1 from congrArg State.freeCount hrest]; rfl
  · exact onlyDataCycles_congr (onlyDataCycles_trans ⟨_, hvector, rfl⟩
      (onlyDataCycles_trans hpsw.cycles (onlyDataCycles_trans hcs.cycles hip.cycles))) rfl rfl
  · obtain ⟨hheldIp, hheldCs, hheldPsw⟩ := frame_held hend2 hend4 hend6 hpsw hcs hip hram
    exact ⟨hheldIp.trans (hipb.trans hipa), hheldCs.trans (congrArg SRegs.cs hpsw.sregs),
      (congrArg flagsOfImage hheldPsw).trans (flagsOfImage_image _ _)⟩

/-- An entry with another offset in IP, which is the one that it saves (R505). -/
theorem takes_of_enter {n : Byte} {ret : Word} {r : Result} {s : State} (h : EntryOk n s) (hr : r = outcome (enter n (s.setIp ret))) :
    Takes n ret r s := by
  obtain ⟨t, ht, hentered⟩ := enter_entered (s := s.setIp ret) h
  exact ⟨t, by rw [hr, ht, outcome_ok], hentered.rest, hentered.cycles, hentered.vector, hentered.frame,
    hentered.memory.bytes, hentered.memory.devices⟩

/-! ### The divide error -/

/-- The error comes after the operand is read and the flags are lost (log 37). -/
theorem takes_divideError {ret : Word} {r : Result} {s : State} {es : List BusEvent} (hes : DataCycles es) (h : EntryOk 0 s)
    (hret : ret = if Config.diverrSavesNextIp then s.ip else s.startIp)
    (hr : r = outcome (divideError (s.logEvents es).divFlags)) : ∃ u, FlagsFree s u ∧ Takes 0 ret r u :=
  ⟨(s.logEvents es).divFlags, ⟨rfl, ⟨es, hes, rfl⟩, divFlags_control s⟩, takes_of_enter h (by rw [hr, hret]; rfl)⟩

theorem div8_error {rm : Rm8} {s : State} (hq : opByte rm s = 0 ∨ 0xFF < s.regs.ax.toNat / (opByte rm s).toNat) :
    div8 rm s = divideError (s.logEvents (readCycles8 rm s)).divFlags := by
  have herror : (opByte rm s).toNat = 0 ∨ 0xFF < s.regs.ax.toNat / (opByte rm s).toNat :=
    hq.imp_left fun hzero => by rw [hzero]; rfl
  rw [div8, getRm8_eq]
  exact if_pos herror

theorem div16_error {rm : Rm16} {s : State} (ha : Accessible rm s)
    (hq : opWord rm s = 0 ∨ 0xFFFF < (s.regs.dx.toNat * 2 ^ 16 + s.regs.ax.toNat) / (opWord rm s).toNat) :
    div16 rm s = divideError (s.logEvents (readCycles16 rm s)).divFlags := by
  have herror : (opWord rm s).toNat = 0 ∨ 0xFFFF < (s.regs.dx.toNat * 2 ^ 16 + s.regs.ax.toNat) / (opWord rm s).toNat :=
    hq.imp_left fun hzero => by rw [hzero]; rfl
  rw [div16, getRm16_ok ha, ok_bind]
  exact if_pos herror

theorem idiv8_error {rm : Rm8} {s : State} {q : Int} (hq : q = s.regs.ax.toInt.tdiv (opByte rm s).toInt)
    (h : opByte rm s = 0 ∨ q < -128 ∨ 127 < q) : idiv8 rm s = divideError (s.logEvents (readCycles8 rm s)).divFlags := by
  have herror : (opByte rm s).toInt = 0 ∨ quotientFits 8 q = false :=
    h.imp (fun hzero => by rw [hzero]; rfl) fun hrange => quotientFits_eq_false (by omega)
  subst hq
  rw [idiv8, getRm8_eq]
  exact if_pos herror

theorem idiv16_error {rm : Rm16} {s : State} {q : Int} (ha : Accessible rm s)
    (hq : q = (s.regs.dx ++ s.regs.ax : BitVec 32).toInt.tdiv (opWord rm s).toInt)
    (h : opWord rm s = 0 ∨ q < -32768 ∨ 32767 < q) : idiv16 rm s = divideError (s.logEvents (readCycles16 rm s)).divFlags := by
  have herror : (opWord rm s).toInt = 0 ∨ quotientFits 16 q = false :=
    h.imp (fun hzero => by rw [hzero]; rfl) fun hrange => quotientFits_eq_false (by omega)
  subst hq
  rw [idiv16, getRm16_ok ha, ok_bind]
  exact if_pos herror

/-! ### BOUND -/

/-- A word read after other memory cycles is the word of before. -/
theorem readWord_logEvents {seg off : Word} (s : State) (es : List BusEvent) (h : off ≠ 0xFFFF#16) :
    readWord seg off (s.logEvents es) =
      .ok (s.loadWord (phys seg off), s.logEvents (es ++ s.wordReadCycles (phys seg off))) := by
  have hlog (fs : List BusEvent) : (s.logEvents es).logEvents fs = s.logEvents (es ++ fs) := by simp [State.logEvents]
  rw [readWord_ok _ h, hlog]
  rfl

/-- BOUND reads both bounds, and compares the register with them as signed numbers (R453). -/
theorem boundOp_eq {r : Reg16} {m : Mem} {s : State} (hlo : ea m s ≠ 0xFFFF#16) (hhi : ea m s + 2 ≠ 0xFFFF#16) :
    ∃ es, DataCycles es ∧ boundOp r m s =
      if (s.reg16 r).toInt < (s.loadWord (phys (memSeg m s) (ea m s))).toInt ∨
          (s.loadWord (phys (memSeg m s) (ea m s + 2))).toInt < (s.reg16 r).toInt then
        enter 5 ((s.logEvents es).setIp (if Config.boundSavesNextIp then s.ip else s.startIp))
      else .ok (s.logEvents es) := by
  have hea (es : List BusEvent) : ea m (s.logEvents es) = ea m s := ea_congr rfl m
  have hseg (es : List BusEvent) : memSeg m (s.logEvents es) = memSeg m s := rfl
  refine ⟨_, dataCycles_append (dataCycles_readWord s (phys (memSeg m s) (ea m s)))
    (dataCycles_readWord s (phys (memSeg m s) (ea m s + 2))), ?_⟩
  rw [boundOp, readWord_ok s hlo, ok_bind]
  simp only [hea, hseg]
  rw [readWord_logEvents s _ hhi, ok_bind]
  rfl

/-- Settles O35. -/
theorem divideAndBoundErrors : Obligations.DivideAndBoundErrors := by
  refine ⟨fun s ret hret => ⟨fun rm hok hq => ?_, fun rm ha hok hq => ?_, fun rm q hok hq h => ?_, fun rm q ha hok hq h => ?_⟩,
    fun s r m lo hi ret hlo hhi hlov hhiv hret => ?bound⟩
  · exact takes_divideError (dataCycles_read8 rm s) hok hret (congrArg outcome (div8_error hq))
  · exact takes_divideError (dataCycles_read16 rm s) hok hret (congrArg outcome (div16_error ha hq))
  · exact takes_divideError (dataCycles_read8 rm s) hok hret (congrArg outcome (idiv8_error hq h))
  · exact takes_divideError (dataCycles_read16 rm s) hok hret (congrArg outcome (idiv16_error ha hq h))
  case bound =>
    obtain ⟨es, hes, hbound⟩ := boundOp_eq (r := r) hlo hhi
    rw [← hlov, ← hhiv, ← hret] at hbound
    refine ⟨fun hge hle => ⟨es, hes, ?inside⟩, fun hout hok => ?outside⟩
    case inside => exact congrArg outcome (hbound.trans (if_neg (by omega)))
    case outside =>
      exact ⟨s.logEvents es, rfl, ⟨es, hes, rfl⟩, takes_of_enter hok (congrArg outcome (hbound.trans (if_pos hout)))⟩

end Sys2Proof.Proofs
end

section
/-! SUPPORT. Proofs of the statements about the decimal and ASCII adjustments and the sign extensions (`41_arithmetic.md` R265, R266,
R272, R273, R277, R280 to R282). -/

namespace Sys2Proof.Proofs

open Sys2Proof Sys2Proof.Machine Sys2Proof.Safety Sys2Proof.Laws

/-! ### DAA and DAS -/

/-- AL and the flags written, and a free value used. -/
theorem byteResult_al {i : Instr} {v : Byte} {g : Flags} {F : Flags → Prop} {s : State} (hF : F g)
    (h : exec i s = .next ((s.setReg8 .al v).setFlags g).nextFree) : ByteResult i (.reg .al) v F s := by
  have hwrote := setRm8_wrote' (.reg .al) v s g (s.freeCount + 1) dataCycles_nil
  rw [List.append_nil] at hwrote
  exact ⟨_, h, hwrote, hF⟩

theorem decimalAdjust_add_fst (al : Byte) (u : Word) (f : Flags) : (decimalAdjust false al u f).1 =
    BitVec.ofNat 8 (al.toNat + (if decide (9 < al.toNat % 16) || f.af then 6 else 0) +
      if decide (0x99 < al.toNat) || f.cf then 0x60 else 0) := by
  apply BitVec.eq_of_toNat_eq
  simp only [decimalAdjust, Bool.false_eq_true, if_false]
  split <;> split <;> bv_omega

theorem decimalAdjust_sub_fst (al : Byte) (u : Word) (f : Flags) : (decimalAdjust true al u f).1 =
    BitVec.ofInt 8 (al.toNat - (if decide (9 < al.toNat % 16) || f.af then 6 else 0 : Nat) -
      (if decide (0x99 < al.toNat) || f.cf then 0x60 else 0 : Nat)) := by
  apply BitVec.eq_of_toNat_eq
  simp only [decimalAdjust, if_true, BitVec.toNat_ofInt]
  split <;> split <;> bv_omega

theorem decimalAdjust_flags (sub : Bool) (al : Byte) (u : Word) (f : Flags) :
    (decimalAdjust sub al u f).2.af = (decide (9 < al.toNat % 16) || f.af) ∧
      (decimalAdjust sub al u f).2.cf = (decide (0x99 < al.toNat) || f.cf) ∧
      ResultFlags (decimalAdjust sub al u f).1 (decimalAdjust sub al u f).2 ∧ ControlKept f (decimalAdjust sub al u f).2 :=
  ⟨rfl, rfl, setSZP_result _ _, rfl, rfl, rfl⟩

/-! ### AAA and AAS -/

/-- The state with AL, AH and the flags written, and a free value used. -/
def adjusted (s : State) (al ah : Byte) (g : Flags) : State := (((s.setReg8 .al al).setReg8 .ah ah).setFlags g).nextFree

theorem adjusted_al (s : State) (al ah : Byte) (g : Flags) : (adjusted s al ah g).reg8 .al = al :=
  (reg8_setReg8_ne (s.setReg8 .al al) ah (by decide)).trans (reg8_setReg8_same s .al al)

theorem adjusted_ah (s : State) (al ah : Byte) (g : Flags) : (adjusted s al ah g).reg8 .ah = ah :=
  reg8_setReg8_same (s.setReg8 .al al) .ah ah

theorem exec_aaa (s : State) : exec .aaa s = .next (adjusted s (asciiAdjust false (s.reg8 .al) (s.reg8 .ah) s.free s.flags).1
    (asciiAdjust false (s.reg8 .al) (s.reg8 .ah) s.free s.flags).2.1
    (asciiAdjust false (s.reg8 .al) (s.reg8 .ah) s.free s.flags).2.2) := rfl

theorem exec_aas (s : State) : exec .aas s = .next (adjusted s (asciiAdjust true (s.reg8 .al) (s.reg8 .ah) s.free s.flags).1
    (asciiAdjust true (s.reg8 .al) (s.reg8 .ah) s.free s.flags).2.1
    (asciiAdjust true (s.reg8 .al) (s.reg8 .ah) s.free s.flags).2.2) := rfl

theorem toNat_and_lowDigit (b : Byte) : (b &&& 0x0F).toNat = b.toNat % 16 :=
  (BitVec.toNat_and _ _).trans (Nat.and_two_pow_sub_one_eq_mod b.toNat 4)

theorem asciiAdjust_add (al ah : Byte) (u : Word) (f : Flags) :
    (asciiAdjust false al ah u f).1.toNat = (if decide (9 < al.toNat % 16) || f.af then al.toNat + 6 else al.toNat) % 16 ∧
      (asciiAdjust false al ah u f).2.1.toNat =
        (if decide (9 < al.toNat % 16) || f.af then ah.toNat + 1 else ah.toNat) % 256 := by
  simp only [asciiAdjust, toNat_and_lowDigit, Bool.false_eq_true, if_false]
  split
  · exact ⟨by bv_omega, by bv_omega⟩
  · exact ⟨rfl, (Nat.mod_eq_of_lt ah.isLt).symm⟩

theorem asciiAdjust_sub (al ah : Byte) (u : Word) (f : Flags) :
    (asciiAdjust true al ah u f).1.toNat = (if decide (9 < al.toNat % 16) || f.af then al.toNat + 10 else al.toNat) % 16 ∧
      (asciiAdjust true al ah u f).2.1.toNat =
        (if decide (9 < al.toNat % 16) || f.af then ah.toNat + 255 else ah.toNat) % 256 := by
  simp only [asciiAdjust, toNat_and_lowDigit, if_true]
  split
  · exact ⟨by bv_omega, by bv_omega⟩
  · exact ⟨rfl, (Nat.mod_eq_of_lt ah.isLt).symm⟩

/-- Settles O36. -/
theorem decimalAndAsciiAdjust : Obligations.DecimalAndAsciiAdjust := by
  refine ⟨fun s => ⟨?daa, ?das⟩, fun s => ⟨?aaa, ?aas⟩⟩
  case daa =>
    dsimp only
    rw [← decimalAdjust_add_fst _ s.free]
    exact byteResult_al (decimalAdjust_flags _ _ _ _) rfl
  case das =>
    dsimp only
    rw [← decimalAdjust_sub_fst _ s.free]
    exact byteResult_al (decimalAdjust_flags _ _ _ _) rfl
  case aaa =>
    refine ⟨_, exec_aaa s, ⟨rfl, rfl, rfl, rfl, rfl, rfl⟩, ?_⟩
    rw [adjusted_al, adjusted_ah]
    exact asciiAdjust_add _ _ _ _
  case aas =>
    refine ⟨_, exec_aas s, ⟨rfl, rfl, rfl, rfl, rfl, rfl⟩, ?_⟩
    rw [adjusted_al, adjusted_ah]
    exact asciiAdjust_sub _ _ _ _

/-! ### AAM, AAD, CBW and CWD -/

theorem afterAsciiMulDiv_flags (f : Flags) (al : Byte) (u : Word) :
    ResultFlags al (f.afterAsciiMulDiv al u) ∧ ControlKept f (f.afterAsciiMulDiv al u) :=
  ⟨setSZP_result _ _, rfl, rfl, rfl⟩

/-- The halves of AX may be written in either order. -/
theorem setReg8_al_ah (s : State) (al ah : Byte) : (s.setReg8 .ah ah).setReg8 .al al = (s.setReg8 .al al).setReg8 .ah ah := by
  simp [State.setReg8, State.setReg16, State.reg16, wholeReg, isHighHalf]

theorem exec_aam (s : State) : exec .aam s = .next (adjusted s (BitVec.ofNat 8 ((s.reg8 .al).toNat % 10))
    (BitVec.ofNat 8 ((s.reg8 .al).toNat / 10))
    (s.flags.afterAsciiMulDiv (BitVec.ofNat 8 ((s.reg8 .al).toNat % 10)) s.free)) := by
  rw [adjusted, ← setReg8_al_ah]; rfl

theorem exec_aad (s : State) : exec .aad s = .next (adjusted s (BitVec.ofNat 8 ((s.reg8 .ah).toNat * 10 + (s.reg8 .al).toNat)) 0
    (s.flags.afterAsciiMulDiv (BitVec.ofNat 8 ((s.reg8 .ah).toNat * 10 + (s.reg8 .al).toNat)) s.free)) := rfl

theorem exec_cbw (s : State) : exec .cbw s = .next (s.setReg16 .ax (signExt (s.reg8 .al))) := rfl

theorem exec_cwd (s : State) : exec .cwd s = .next (s.setReg16 .dx (if s.regs.ax.msb then 0xFFFF#16 else 0#16)) := rfl

/-- A word under a word of its sign bits is the same signed number (R282). -/
theorem toInt_signWord_append (v : Word) : ((if v.msb then 0xFFFF#16 else 0#16) ++ v : BitVec 32).toInt = v.toInt := by
  rw [BitVec.toInt_append, BitVec.toInt_eq_msb_cond v]
  cases v.msb with
  | false => simp
  | true => simp; omega

/-- Settles O37. -/
theorem asciiMulDivAndExtend : Obligations.AsciiMulDivAndExtend := by
  refine ⟨fun rest => ⟨decodeOfEncode .aam rest rfl, decodeOfEncode .aad rest rfl, decodeOfEncode .cbw rest rfl,
    decodeOfEncode .cwd rest rfl⟩, fun s => ⟨?aam, ?aad, ?cbw, ?cwd⟩⟩
  case aam =>
    have hal := (s.reg8 .al).isLt
    refine ⟨_, exec_aam s, rfl, ?_, ?_, ?_⟩
    · rw [adjusted_ah]; exact Nat.mod_eq_of_lt (by omega)
    · rw [adjusted_al]; exact Nat.mod_eq_of_lt (by omega)
    · rw [adjusted_al]; exact afterAsciiMulDiv_flags _ _ _
  case aad =>
    refine ⟨_, exec_aad s, rfl, ?_, adjusted_ah _ _ _ _, ?_⟩
    · rw [adjusted_al, BitVec.toNat_ofNat]
    · rw [adjusted_al]; exact afterAsciiMulDiv_flags _ _ _
  case cbw => exact ⟨_, exec_cbw s, rfl, BitVec.toInt_signExtend_of_le (by decide)⟩
  case cwd => exact ⟨_, exec_cwd s, rfl, toInt_signWord_append s.regs.ax⟩

end Sys2Proof.Proofs
end

section
/-! SUPPORT. Proofs of the statements about shifts and rotates (`42_bit_manipulation.md` R330 to R337): what a number of single steps
amounts to, the flags they set, and the six encodings of each operation. -/

namespace Sys2Proof.Proofs

open Sys2Proof Sys2Proof.Machine Sys2Proof.Safety Sys2Proof.Laws

/-! ### Rotations of a bit vector -/

theorem rotateLeft_zero {w : Nat} (a : BitVec w) : a.rotateLeft 0 = a := by
  simp [BitVec.rotateLeft_def, BitVec.ushiftRight_eq_zero]

theorem rotateRight_zero {w : Nat} (a : BitVec w) : a.rotateRight 0 = a := by
  simp [BitVec.rotateRight_def]

theorem rotateLeft_add {w : Nat} (a : BitVec w) (m n : Nat) : a.rotateLeft (m + n) = (a.rotateLeft m).rotateLeft n := by
  refine BitVec.eq_of_getMsbD_eq fun i hi => ?_
  have hn : (n + i) % w < w := Nat.mod_lt _ (by omega)
  simp only [BitVec.getMsbD_rotateLeft, hi, hn, decide_true, Bool.true_and, Nat.add_mod_mod, Nat.add_assoc]

/-- Each bit of a rotation to the right, by the place it comes from. -/
theorem getLsbD_rotateRight_mod {w : Nat} (a : BitVec w) (n : Nat) {i : Nat} (hi : i < w) :
    (a.rotateRight n).getLsbD i = a.getLsbD ((n + i) % w) := by
  have hn : n % w < w := Nat.mod_lt _ (by omega)
  rw [BitVec.getLsbD_rotateRight, ← Nat.mod_add_mod]
  generalize n % w = k at hn ⊢
  by_cases h : i < w - k
  · rw [Nat.mod_eq_of_lt (by omega : k + i < w)]; simp [h]
  · rw [show k + i = i - (w - k) + w by omega, Nat.add_mod_right, Nat.mod_eq_of_lt (by omega)]; simp [h, hi]

theorem rotateRight_add {w : Nat} (a : BitVec w) (m n : Nat) : a.rotateRight (m + n) = (a.rotateRight m).rotateRight n := by
  refine BitVec.eq_of_getLsbD_eq fun i hi => ?_
  have hn : (n + i) % w < w := Nat.mod_lt _ (by omega)
  simp only [getLsbD_rotateRight_mod _ _ hi, getLsbD_rotateRight_mod _ _ hn, Nat.add_mod_mod, Nat.add_assoc]

/-- One place to the left: the top bit comes in below. -/
theorem getLsbD_rotateLeft_one {w : Nat} (hw : 1 < w) (a : BitVec w) {i : Nat} (hi : i < w) :
    (a.rotateLeft 1).getLsbD i = if i = 0 then a.getLsbD (w - 1) else a.getLsbD (i - 1) := by
  rw [BitVec.getLsbD_rotateLeft, Nat.mod_eq_of_lt hw]
  by_cases h : i = 0
  · simp [h]
  · simp [h, hi]

/-- One place to the right: the bottom bit comes in above. -/
theorem getLsbD_rotateRight_one {w : Nat} (hw : 1 < w) (a : BitVec w) {i : Nat} (hi : i < w) :
    (a.rotateRight 1).getLsbD i = if i = w - 1 then a.getLsbD 0 else a.getLsbD (i + 1) := by
  rw [getLsbD_rotateRight_mod a 1 hi]
  by_cases h : i = w - 1
  · rw [if_pos h, show 1 + i = w by omega, Nat.mod_self]
  · rw [if_neg h, Nat.mod_eq_of_lt (by omega), Nat.add_comm]

/-! ### Single steps as rotations -/

theorem getLsbD_bitOf {w : Nat} (hw : 0 < w) (b : Bool) (i : Nat) : (bitOf w b).getLsbD i = (decide (i = 0) && b) := by
  cases b with
  | false => simp [bitOf]
  | true => simp [bitOf, hw, Bool.and_comm]

/-- A step to the left that brings `b` in below. -/
theorem getLsbD_shiftLeft_bitOf {w : Nat} (a : BitVec w) (b : Bool) {i : Nat} (hi : i < w) :
    (a <<< 1 ||| bitOf w b).getLsbD i = if i = 0 then b else a.getLsbD (i - 1) := by
  rw [BitVec.getLsbD_or, BitVec.getLsbD_shiftLeft, getLsbD_bitOf (by omega)]
  by_cases h : i = 0 <;> simp [h, hi]

/-- A step to the right that brings `b` in above. -/
theorem getLsbD_shiftRight_bitOf {w : Nat} (a : BitVec w) (b : Bool) {i : Nat} (hi : i < w) :
    (a >>> 1 ||| bitOf w b <<< (w - 1)).getLsbD i = if i = w - 1 then b else a.getLsbD (i + 1) := by
  rw [BitVec.getLsbD_or, BitVec.getLsbD_ushiftRight, BitVec.getLsbD_shiftLeft, getLsbD_bitOf (by omega), Nat.add_comm 1]
  by_cases h : i = w - 1
  · have htop : a.getLsbD (i + 1) = false := BitVec.getLsbD_of_ge _ _ (by omega)
    simp [h, show w - 1 < w by omega, show w - 1 + 1 = w by omega]
  · simp [h, show i < w - 1 by omega]

theorem rol_step {w : Nat} (hw : 1 < w) (x : BitVec w × Bool) : ShiftOp.rol.step x = (x.1.rotateLeft 1, x.1.getLsbD (w - 1)) := by
  refine Prod.ext (BitVec.eq_of_getLsbD_eq fun i hi => ?_) (msb_eq x.1)
  exact (getLsbD_shiftLeft_bitOf _ _ hi).trans (msb_eq x.1 ▸ (getLsbD_rotateLeft_one hw _ hi).symm)

theorem ror_step {w : Nat} (hw : 1 < w) (x : BitVec w × Bool) : ShiftOp.ror.step x = (x.1.rotateRight 1, x.1.getLsbD 0) :=
  Prod.ext (BitVec.eq_of_getLsbD_eq fun _ hi => (getLsbD_shiftRight_bitOf _ _ hi).trans (getLsbD_rotateRight_one hw _ hi).symm) rfl

/-- CF and the operand as one vector, CF above: what RCL and RCR rotate (R336, R337). -/
def carried {w : Nat} (x : BitVec w × Bool) : BitVec (w + 1) := BitVec.cons x.2 x.1

@[simp] theorem carried_setWidth {w : Nat} (x : BitVec w × Bool) : (carried x).setWidth w = x.1 := BitVec.setWidth_cons

@[simp] theorem carried_getLsbD_top {w : Nat} (x : BitVec w × Bool) : (carried x).getLsbD w = x.2 := by
  rw [carried, BitVec.getLsbD_cons, if_pos rfl]

theorem carried_getLsbD_of_lt {w : Nat} (x : BitVec w × Bool) {i : Nat} (hi : i < w) : (carried x).getLsbD i = x.1.getLsbD i := by
  rw [carried, BitVec.getLsbD_cons, if_neg (Nat.ne_of_lt hi)]

theorem carried_rcl_step {w : Nat} (hw : 0 < w) (x : BitVec w × Bool) : carried (ShiftOp.rcl.step x) = (carried x).rotateLeft 1 := by
  refine BitVec.eq_of_getLsbD_eq fun i hi => ?_
  rw [getLsbD_rotateLeft_one (by omega) _ hi]
  simp only [carried, ShiftOp.step, BitVec.getLsbD_cons, msb_eq]
  by_cases h : i = w
  · simp [h, show w ≠ 0 by omega, show w - 1 ≠ w by omega]
  · rw [getLsbD_shiftLeft_bitOf _ _ (by omega)]
    simp [h, show i - 1 ≠ w by omega]

theorem carried_rcr_step {w : Nat} (hw : 0 < w) (x : BitVec w × Bool) :
    carried (ShiftOp.rcr.step x) = (carried x).rotateRight 1 := by
  refine BitVec.eq_of_getLsbD_eq fun i hi => ?_
  rw [getLsbD_rotateRight_one (by omega) _ hi]
  simp only [carried, ShiftOp.step, BitVec.getLsbD_cons]
  by_cases h : i = w
  · simp [h, show 0 ≠ w by omega]
  · rw [getLsbD_shiftRight_bitOf _ _ (by omega)]
    simp [h, show i = w - 1 ↔ i + 1 = w by omega]

/-! ### A number of steps -/

/-- Steps that do not use CF: the operand moves by `move`, which adds up, and CF takes `out` of the operand before the step. -/
theorem run_of_step {w : Nat} {op : ShiftOp} {move : BitVec w → Nat → BitVec w} {out : BitVec w → Bool}
    (hstep : ∀ x, op.step x = (move x.1 1, out x.1)) (hzero : ∀ a, move a 0 = a)
    (hadd : ∀ a n, move a (1 + n) = move (move a 1) n) (c : Nat) (x : BitVec w × Bool) :
    op.run (c + 1) x = (move x.1 (c + 1), out (move x.1 c)) := by
  induction c generalizing x with
  | zero => rw [hzero]; exact hstep x
  | succ c ih =>
    calc op.run (c + 1 + 1) x = op.run (c + 1) (op.step x) := rfl
      _ = (move (move x.1 1) (c + 1), out (move (move x.1 1) c)) := by rw [ih, hstep]
      _ = (move x.1 (c + 1 + 1), out (move x.1 (c + 1))) := by rw [← hadd, ← hadd, Nat.add_comm 1 (c + 1), Nat.add_comm 1 c]

/-- Steps that rotate CF and the operand together by `turn`, which adds up. -/
theorem carried_run_of_step {w : Nat} {op : ShiftOp} {turn : BitVec (w + 1) → Nat → BitVec (w + 1)}
    (hstep : ∀ x, carried (op.step x) = turn (carried x) 1) (hzero : ∀ a, turn a 0 = a)
    (hadd : ∀ a n, turn a (1 + n) = turn (turn a 1) n) (c : Nat) (x : BitVec w × Bool) :
    carried (op.run c x) = turn (carried x) c := by
  induction c generalizing x with
  | zero => exact (hzero _).symm
  | succ c ih =>
    calc carried (op.run (c + 1) x) = carried (op.run c (op.step x)) := rfl
      _ = turn (turn (carried x) 1) c := by rw [ih, hstep]
      _ = turn (carried x) (c + 1) := by rw [Nat.add_comm c 1, hadd]

theorem shl_run {w : Nat} (c : Nat) (x : BitVec w × Bool) : ShiftOp.shl.run (c + 1) x = (x.1 <<< (c + 1), (x.1 <<< c).msb) :=
  run_of_step (move := (· <<< ·)) (out := BitVec.msb) (fun _ => rfl) (by simp) (fun a n => BitVec.shiftLeft_add a 1 n) c x

theorem shr_run {w : Nat} (c : Nat) (x : BitVec w × Bool) :
    ShiftOp.shr.run (c + 1) x = (x.1 >>> (c + 1), (x.1 >>> c).getLsbD 0) :=
  run_of_step (move := (· >>> ·)) (out := (·.getLsbD 0)) (fun _ => rfl) (by simp) (fun a n => BitVec.shiftRight_add a 1 n) c x

theorem sar_run {w : Nat} (c : Nat) (x : BitVec w × Bool) :
    ShiftOp.sar.run (c + 1) x = (x.1.sshiftRight (c + 1), (x.1.sshiftRight c).getLsbD 0) :=
  run_of_step (move := BitVec.sshiftRight) (out := (·.getLsbD 0)) (fun _ => rfl) (by simp) (fun _ _ => BitVec.sshiftRight_add) c x

theorem rol_run {w : Nat} (hw : 1 < w) (c : Nat) (x : BitVec w × Bool) :
    ShiftOp.rol.run (c + 1) x = (x.1.rotateLeft (c + 1), (x.1.rotateLeft c).getLsbD (w - 1)) :=
  run_of_step (out := (·.getLsbD (w - 1))) (rol_step hw) rotateLeft_zero (fun a n => rotateLeft_add a 1 n) c x

theorem ror_run {w : Nat} (hw : 1 < w) (c : Nat) (x : BitVec w × Bool) :
    ShiftOp.ror.run (c + 1) x = (x.1.rotateRight (c + 1), (x.1.rotateRight c).getLsbD 0) :=
  run_of_step (out := (·.getLsbD 0)) (ror_step hw) rotateRight_zero (fun a n => rotateRight_add a 1 n) c x

theorem carried_rcl_run {w : Nat} (hw : 0 < w) (c : Nat) (x : BitVec w × Bool) :
    carried (ShiftOp.rcl.run c x) = (carried x).rotateLeft c :=
  carried_run_of_step (carried_rcl_step hw) rotateLeft_zero (fun a n => rotateLeft_add a 1 n) c x

theorem carried_rcr_run {w : Nat} (hw : 0 < w) (c : Nat) (x : BitVec w × Bool) :
    carried (ShiftOp.rcr.run c x) = (carried x).rotateRight c :=
  carried_run_of_step (carried_rcr_step hw) rotateRight_zero (fun a n => rotateRight_add a 1 n) c x

/-! ### Result and flags -/

section Apply

variable {w : Nat} {op : ShiftOp} {a r : BitVec w} {c : Nat} {u : Word} {f : Flags} {cf ofl : Bool}

theorem apply_of_shift_run (hs : op.isShift = true) (hr : op.run c (a, f.cf) = (r, cf)) (ho : c = 1 → op.overflow a r cf = ofl) :
    (op.apply a c u f).1 = r ∧ ShiftFlags r cf ofl c f (op.apply a c u f).2 := by
  simp only [ShiftOp.apply, hr, hs, if_true]
  exact ⟨trivial, setSZP_cf _ _, fun h => by rw [setSZP_ofl, ← ho h]; exact if_pos h, setSZP_result _ _, rfl, rfl, rfl⟩

theorem apply_of_rotate_run (hs : op.isShift = false) (hr : op.run c (a, f.cf) = (r, cf)) (ho : c = 1 → op.overflow a r cf = ofl) :
    (op.apply a c u f).1 = r ∧ RotateFlags cf ofl c f (op.apply a c u f).2 := by
  simp only [ShiftOp.apply, hr, hs, Bool.false_eq_true, if_false]
  exact ⟨trivial, rfl, rfl, fun h => (if_pos h).trans (ho h)⟩

end Apply

section Operations

variable {w : Nat} (a : BitVec w) {c : Nat} (u : Word) (f : Flags)

/-- SHL (R331): the bit shifted out last is bit `w - c`, and none is left beyond `w` places. -/
theorem shl_apply (hw : 1 < w) (hc : c ≠ 0) : (ShiftOp.shl.apply a c u f).1 = a <<< c ∧
    ShiftFlags (a <<< c) (decide (c ≤ w) && a.getLsbD (w - c)) ((a <<< c).getLsbD (w - 1) ^^ a.getLsbD (w - 1)) c f
      (ShiftOp.shl.apply a c u f).2 := by
  obtain ⟨n, rfl⟩ := Nat.exists_eq_succ_of_ne_zero hc
  have hcf : (a <<< n).msb = (decide (n + 1 ≤ w) && a.getLsbD (w - (n + 1))) := by
    rw [msb_eq, BitVec.getLsbD_shiftLeft, show w - 1 - n = w - (n + 1) by omega]
    by_cases h : n + 1 ≤ w
    · simp only [h, show w - 1 < w by omega, show ¬w - 1 < n by omega, decide_true, decide_false, Bool.not_false, Bool.true_and]
    · simp only [h, show w - 1 < n by omega, decide_true, decide_false, Bool.not_true, Bool.and_false, Bool.false_and]
  refine apply_of_shift_run rfl ((shl_run n _).trans (by rw [hcf])) fun h => ?_
  obtain rfl : n = 0 := by omega
  simp [ShiftOp.overflow, msb_eq, show 1 ≤ w by omega]

/-- SHR (R332): the bit shifted out last is bit `c - 1`. -/
theorem shr_apply (hc : c ≠ 0) : (ShiftOp.shr.apply a c u f).1 = a >>> c ∧
    ShiftFlags (a >>> c) (a.getLsbD (c - 1)) (a.getLsbD (w - 1)) c f (ShiftOp.shr.apply a c u f).2 := by
  obtain ⟨n, rfl⟩ := Nat.exists_eq_succ_of_ne_zero hc
  have hcf : (a >>> n).getLsbD 0 = a.getLsbD n := by rw [BitVec.getLsbD_ushiftRight, Nat.add_zero]
  exact apply_of_shift_run rfl ((shr_run n _).trans (by rw [hcf]; rfl)) fun _ => msb_eq a

/-- SAR (R333): the bit shifted out last is bit `c - 1`, or the sign where that lies beyond the operand. -/
theorem sar_apply (hw : 1 < w) (hc : c ≠ 0) : (ShiftOp.sar.apply a c u f).1 = a.sshiftRight c ∧
    ShiftFlags (a.sshiftRight c) (if c < w then a.getLsbD (c - 1) else a.getLsbD (w - 1)) false c f
      (ShiftOp.sar.apply a c u f).2 := by
  obtain ⟨n, rfl⟩ := Nat.exists_eq_succ_of_ne_zero hc
  have hcf : (a.sshiftRight n).getLsbD 0 = if n + 1 < w then a.getLsbD n else a.getLsbD (w - 1) := by
    rw [BitVec.getLsbD_sshiftRight, msb_eq, Nat.add_zero]
    obtain h | rfl | h : n + 1 < w ∨ w = n + 1 ∨ w < n + 1 := by omega
    · simp [h, show n < w by omega, show w ≠ 0 by omega]
    · simp
    · simp [show ¬n + 1 < w by omega, show ¬n < w by omega, show w ≠ 0 by omega]
  exact apply_of_shift_run rfl ((sar_run n _).trans (by rw [hcf]; rfl)) fun _ => rfl

/-- ROL (R334): the bit that moved last is now bit 0. -/
theorem rol_apply (hw : 1 < w) (hc : c ≠ 0) : (ShiftOp.rol.apply a c u f).1 = a.rotateLeft (c % w) ∧
    RotateFlags ((a.rotateLeft (c % w)).getLsbD 0)
      ((a.rotateLeft (c % w)).getLsbD (w - 1) ^^ (a.rotateLeft (c % w)).getLsbD 0) c f (ShiftOp.rol.apply a c u f).2 := by
  obtain ⟨n, rfl⟩ := Nat.exists_eq_succ_of_ne_zero hc
  rw [BitVec.rotateLeft_mod_eq_rotateLeft]
  have hcf : (a.rotateLeft (n + 1)).getLsbD 0 = (a.rotateLeft n).getLsbD (w - 1) := by
    rw [rotateLeft_add, getLsbD_rotateLeft_one hw _ (by omega), if_pos rfl]
  exact apply_of_rotate_run rfl ((rol_run hw n _).trans (by rw [hcf])) fun _ => by rw [ShiftOp.overflow, msb_eq]

/-- ROR (R335): the bit that moved last is now the top bit. -/
theorem ror_apply (hw : 1 < w) (hc : c ≠ 0) : (ShiftOp.ror.apply a c u f).1 = a.rotateRight (c % w) ∧
    RotateFlags ((a.rotateRight (c % w)).getLsbD (w - 1))
      ((a.rotateRight (c % w)).getLsbD (w - 1) ^^ (a.rotateRight (c % w)).getLsbD (w - 2)) c f
      (ShiftOp.ror.apply a c u f).2 := by
  obtain ⟨n, rfl⟩ := Nat.exists_eq_succ_of_ne_zero hc
  rw [BitVec.rotateRight_mod_eq_rotateRight]
  have hcf : (a.rotateRight (n + 1)).getLsbD (w - 1) = (a.rotateRight n).getLsbD 0 := by
    rw [rotateRight_add, getLsbD_rotateRight_one hw _ (by omega), if_pos rfl]
  exact apply_of_rotate_run rfl ((ror_run hw n _).trans (by rw [hcf])) fun _ => by rw [ShiftOp.overflow, msb_eq]

/-- RCL (R336): CF is the bit above the operand in the vector rotated. -/
theorem rcl_apply (hw : 1 < w) : (ShiftOp.rcl.apply a c u f).1 = ((BitVec.cons f.cf a).rotateLeft (c % (w + 1))).setWidth w ∧
    RotateFlags (((BitVec.cons f.cf a).rotateLeft (c % (w + 1))).getLsbD w)
      (((BitVec.cons f.cf a).rotateLeft (c % (w + 1))).getLsbD (w - 1) ^^
        ((BitVec.cons f.cf a).rotateLeft (c % (w + 1))).getLsbD w) c f (ShiftOp.rcl.apply a c u f).2 := by
  have hrun : carried (ShiftOp.rcl.run c (a, f.cf)) = (BitVec.cons f.cf a).rotateLeft (c % (w + 1)) := by
    rw [carried_rcl_run (by omega), BitVec.rotateLeft_mod_eq_rotateLeft]; rfl
  rw [← hrun, carried_setWidth, carried_getLsbD_top, carried_getLsbD_of_lt _ (by omega)]
  exact apply_of_rotate_run rfl rfl fun _ => by rw [ShiftOp.overflow, msb_eq]

/-- RCR (R337): CF is the bit above the operand in the vector rotated. -/
theorem rcr_apply (hw : 1 < w) : (ShiftOp.rcr.apply a c u f).1 = ((BitVec.cons f.cf a).rotateRight (c % (w + 1))).setWidth w ∧
    RotateFlags (((BitVec.cons f.cf a).rotateRight (c % (w + 1))).getLsbD w)
      (((BitVec.cons f.cf a).rotateRight (c % (w + 1))).getLsbD (w - 1) ^^
        ((BitVec.cons f.cf a).rotateRight (c % (w + 1))).getLsbD (w - 2)) c f (ShiftOp.rcr.apply a c u f).2 := by
  have hrun : carried (ShiftOp.rcr.run c (a, f.cf)) = (BitVec.cons f.cf a).rotateRight (c % (w + 1)) := by
    rw [carried_rcr_run (by omega), BitVec.rotateRight_mod_eq_rotateRight]; rfl
  rw [← hrun, carried_setWidth, carried_getLsbD_top, carried_getLsbD_of_lt _ (by omega), carried_getLsbD_of_lt _ (by omega)]
  exact apply_of_rotate_run rfl rfl fun _ => by rw [ShiftOp.overflow, msb_eq]

end Operations

/-! ### The six encodings of an operation -/

theorem shift8_zero {op : ShiftOp} {rm : Rm8} {n : Byte} {s : State} (hn : n.toNat % 32 = 0) :
    outcome (shift8 op rm n s) = .next s := congrArg outcome (if_pos hn)

theorem shift16_zero {op : ShiftOp} {rm : Rm16} {n : Byte} {s : State} (hn : n.toNat % 32 = 0) :
    outcome (shift16 op rm n s) = .next s := congrArg outcome (if_pos hn)

/-- The six instructions are the operation by a count of 1, by CL and by an immediate. -/
structure RunsShiftForms (op : ShiftOp) (x : ShiftForms) : Prop where
  rm8One : ∀ rm s, exec (x.rm8One rm) s = outcome (shift8 op rm 1 s)
  rm16One : ∀ rm s, exec (x.rm16One rm) s = outcome (shift16 op rm 1 s)
  rm8Cl : ∀ rm s, exec (x.rm8Cl rm) s = outcome (shift8 op rm (s.reg8 .cl) s)
  rm16Cl : ∀ rm s, exec (x.rm16Cl rm) s = outcome (shift16 op rm (s.reg8 .cl) s)
  rm8Imm : ∀ rm i s, exec (x.rm8Imm rm i) s = outcome (shift8 op rm i s)
  rm16Imm : ∀ rm i s, exec (x.rm16Imm rm i) s = outcome (shift16 op rm i s)

section Forms

variable {op : ShiftOp} {x : ShiftForms} {res : (w : Nat) → BitVec w → Nat → Bool → BitVec w}
  {F : (w : Nat) → BitVec w → Nat → Flags → Flags → Prop} {i : Instr} {n : Byte} {c : Nat} {s : State}

/-- The operation by a count of at least 1 answers the result `res` and sets flags as `F` says, at every width of the machine. -/
def ShiftComputes (op : ShiftOp) (res : (w : Nat) → BitVec w → Nat → Bool → BitVec w)
    (F : (w : Nat) → BitVec w → Nat → Flags → Flags → Prop) : Prop :=
  ∀ {w : Nat} (a : BitVec w) {c : Nat} (u : Word) (f : Flags), 1 < w → c ≠ 0 →
    (op.apply a c u f).1 = res w a c f.cf ∧ F w a c f (op.apply a c u f).2

theorem shift8_byteResult {rm : Rm8} (ho : ShiftComputes op res F) (h : exec i s = outcome (shift8 op rm n s))
    (hn : n.toNat % 32 = c) (hc : c ≠ 0) :
    ByteResult i rm (res 8 (opByte rm s) c s.flags.cf) (F 8 (opByte rm s) c s.flags) s := by
  obtain ⟨hres, hF⟩ := ho (opByte rm s) s.free s.flags (by decide) hc
  have hcount : effectiveCount n = c := hn
  rw [shift8, hcount, if_neg hc, getRm8_eq] at h
  rw [← hres]
  exact ⟨_, h, setRm8_wrote rm _ s _ s.freeCount _ (dataCycles_read8 rm s), by rwa [nextFree_flags, setRm8_flags]⟩

theorem shift16_wordResult {rm : Rm16} (ho : ShiftComputes op res F) (h : exec i s = outcome (shift16 op rm n s))
    (hn : n.toNat % 32 = c) (hc : c ≠ 0) :
    WordResult i rm (res 16 (opWord rm s) c s.flags.cf) (F 16 (opWord rm s) c s.flags) s := by
  intro ha
  obtain ⟨hres, hF⟩ := ho (opWord rm s) s.free s.flags (by decide) hc
  have hcount : effectiveCount n = c := hn
  rw [shift16, hcount, if_neg hc, getRm16_ok ha, ok_bind] at h
  obtain ⟨t, ht, hwrote, hflags, hfree⟩ := setRm16_wrote (op.apply (opWord rm s) c s.free s.flags).1
    (op.apply (opWord rm s) c s.free s.flags).2 s.freeCount (s.freeCount + 1) (dataCycles_read16 rm s) ha
  have hrun := bind_eq_ok (f := fun t : State => .ok t.nextFree).mpr ⟨t, ht, rfl⟩
  rw [← hfree] at hwrote
  rw [← hres]
  exact ⟨t.nextFree, h.trans (congrArg outcome hrun), hwrote, by rwa [nextFree_flags, hflags]⟩

theorem write_of_shiftComputes (ho : ShiftComputes op res F) (hx : RunsShiftForms op x) : x.Write res F := fun s =>
  ⟨fun rm => shift8_byteResult ho (hx.rm8One rm s) (by decide) (by decide),
    fun rm => shift16_wordResult ho (hx.rm16One rm s) (by decide) (by decide),
    fun rm _ => shift8_byteResult ho (hx.rm8Cl rm s),
    fun rm _ => shift16_wordResult ho (hx.rm16Cl rm s),
    fun rm i _ => shift8_byteResult ho (hx.rm8Imm rm i s),
    fun rm i _ => shift16_wordResult ho (hx.rm16Imm rm i s)⟩

end Forms

/-- Settles O39. -/
theorem shifts : Obligations.Shifts := by
  refine ⟨write_of_shiftComputes shl_apply ?_, write_of_shiftComputes (fun a _ u f _ hc => shr_apply a u f hc) ?_,
    write_of_shiftComputes sar_apply ?_⟩
  all_goals constructor <;> intros <;> rfl

/-- Settles O40. -/
theorem rotates : Obligations.Rotates := by
  refine ⟨⟨write_of_shiftComputes rol_apply ?_, write_of_shiftComputes ror_apply ?_⟩,
    write_of_shiftComputes (fun a _ u f hw _ => rcl_apply a u f hw) ?_,
    write_of_shiftComputes (fun a _ u f hw _ => rcr_apply a u f hw) ?_⟩
  all_goals constructor <;> intros <;> rfl

/-- Settles O41: in the order of the lists, seven operations on the byte operand and seven on the word. -/
theorem shiftByZero : Obligations.ShiftByZero := by
  intro s rm8 rm16 i
  refine ⟨fun h => ?_, fun h => ?_⟩
  all_goals
    have byte {op} := shift8_zero (op := op) (rm := rm8) (s := s) h
    have word {op} := shift16_zero (op := op) (rm := rm16) (s := s) h
    simp only [List.forall_mem_cons, List.not_mem_nil, false_imp_iff, implies_true, and_true]
    exact ⟨byte, byte, byte, byte, byte, byte, byte, word, word, word, word, word, word, word⟩

end Sys2Proof.Proofs
end

section
/-! SUPPORT. Proofs of the statements about one element of a string instruction (`43_string.md` R360, R370 to R376). -/

namespace Sys2Proof.Proofs

open Sys2Proof Sys2Proof.Machine Sys2Proof.Safety Sys2Proof.Laws

/-! ### One element, outside a repetition -/

theorem stringStep_once {self : Instr} {compare : Bool} {body : State → Except Stop State} {s : State} (h : s.pfx.rep = none) :
    stringStep self compare body s = body s := by simp [stringStep, h]

theorem exec_element {i self : Instr} {compare : Bool} {body : State → Except Stop State} {s t : State}
    (hexec : exec i s = outcome (stringStep self compare body s)) (hrep : s.pfx.rep = none) (hbody : body s = .ok t) :
    exec i s = .next t := by
  rw [hexec, stringStep_once hrep, hbody, outcome_ok]

/-! ### The index registers (R360) -/

theorem advanceSi_eq {s t : State} (n : Word) (hregs : t.regs = s.regs) (hflags : t.flags = s.flags) :
    t.advanceSi n = { t with regs := { s.regs with si := advance n s.regs.si s } } := by
  simp [State.advanceSi, State.setReg16, advance, hregs, hflags]

theorem advanceDi_eq {s t : State} (n : Word) (hregs : t.regs = s.regs) (hflags : t.flags = s.flags) :
    t.advanceDi n = { t with regs := { s.regs with di := advance n s.regs.di s } } := by
  simp [State.advanceDi, State.setReg16, advance, hregs, hflags]

theorem advanceBoth_eq {s t : State} (n : Word) (hregs : t.regs = s.regs) (hflags : t.flags = s.flags) :
    (t.advanceSi n).advanceDi n =
      { t with regs := { s.regs with si := advance n s.regs.si s, di := advance n s.regs.di s } } := by
  rw [advanceSi_eq n hregs hflags, State.advanceDi]
  simp [State.setReg16, advance, hflags]

/-! ### An element stored -/

@[simp] theorem writeByte_regs (seg off : Word) (v : Byte) (s : State) : (writeByte seg off v s).regs = s.regs := by simp [writeByte]

@[simp] theorem writeByte_flags (seg off : Word) (v : Byte) (s : State) : (writeByte seg off v s).flags = s.flags := by
  simp [writeByte]

@[simp] theorem wroteWord_regs (seg off v : Word) (s : State) : (wroteWord seg off v s).regs = s.regs := by simp [wroteWord]

@[simp] theorem wroteWord_flags (seg off v : Word) (s : State) : (wroteWord seg off v s).flags = s.flags := by simp [wroteWord]

/-- All that a byte write changes. -/
theorem writeByte_rest (seg off : Word) (v : Byte) (s : State) :
    writeByte seg off v s = { s with
      mem := (writeByte seg off v s).mem, stale := (writeByte seg off v s).stale, devWrites := (writeByte seg off v s).devWrites
      busLog := s.busLog ++ [.memWrite false (phys seg off) (zeroExt v)] } := by
  unfold writeByte State.logEvents
  rw [storeByte_rest]

theorem read_writeByte {seg off : Word} {s : State} (v : Byte) (h : Ram [phys seg off] s) :
    Memory.read (writeByte seg off v s).mem (phys seg off) = v :=
  read_storeByte_ram v (h _ List.mem_cons_self)

theorem memSame_writeByte (seg off : Word) (v : Byte) (s : State) : MemSameBut [phys seg off] s (writeByte seg off v s) :=
  ⟨(memSame_storeByte s _ v).bytes, (memSame_storeByte s _ v).devices⟩

theorem memSame_wroteWord (seg off v : Word) (s : State) : MemSameBut (wordBytes seg off) s (wroteWord seg off v s) :=
  ⟨(memSame_storeWord s _ v).bytes, (memSame_storeWord s _ v).devices⟩

/-- A byte stored after memory cycles, with the registers set anew. -/
theorem stores_byte {r : Result} {s : State} {seg off : Word} {v : Byte} {es : List BusEvent} {regs : Regs} (hes : DataCycles es)
    (h : r = .next { writeByte seg off v (s.logEvents es) with regs := regs }) :
    ∃ t, r = .next t ∧ t = { s with regs := regs, mem := t.mem, stale := t.stale, devWrites := t.devWrites, busLog := t.busLog } ∧
      OnlyDataCycles s t ∧ (Ram [phys seg off] s → Memory.read t.mem (phys seg off) = v) ∧ MemSameBut [phys seg off] s t := by
  have hmemory := memSame_writeByte seg off v (s.logEvents es)
  refine ⟨_, h, ?_, ?_, read_writeByte (s := s.logEvents es) v, hmemory.bytes, hmemory.devices⟩
  · rw [writeByte_rest]; rfl
  · exact onlyDataCycles_trans ⟨es, hes, rfl⟩
      ⟨_, dataCycles_writeByte (phys seg off) (zeroExt v), congrArg State.busLog (writeByte_rest seg off v (s.logEvents es))⟩

/-- A word stored after memory cycles, with the registers set anew. -/
theorem stores_word {r : Result} {s : State} {seg off v : Word} {es : List BusEvent} {regs : Regs} (hes : DataCycles es)
    (h : r = .next { wroteWord seg off v (s.logEvents es) with regs := regs }) :
    ∃ t, r = .next t ∧ t = { s with regs := regs, mem := t.mem, stale := t.stale, devWrites := t.devWrites, busLog := t.busLog } ∧
      OnlyDataCycles s t ∧ (Ram (wordBytes seg off) s → heldWord t seg off = v) ∧ MemSameBut (wordBytes seg off) s t := by
  have hmemory := memSame_wroteWord seg off v (s.logEvents es)
  refine ⟨_, h, ?_, ?_, heldWord_storeWord (s := s.logEvents es) v, hmemory.bytes, hmemory.devices⟩
  · rw [wroteWord_rest]; rfl
  · exact onlyDataCycles_trans ⟨es, hes, rfl⟩ (wroteWord_cycles seg off v (s.logEvents es))

/-! ### MOVS and STOS -/

theorem movs8_eq (s : State) : movs8 s = .ok
    { writeByte s.sregs.es s.regs.di (s.loadByte (phys (srcSeg s) s.regs.si))
        (s.logEvents [.memRead false (phys (srcSeg s) s.regs.si) (zeroExt (s.loadByte (phys (srcSeg s) s.regs.si)))]) with
      regs := { s.regs with si := advance 1 s.regs.si s, di := advance 1 s.regs.di s } } :=
  congrArg Except.ok (advanceBoth_eq 1 (writeByte_regs _ _ _ _) (writeByte_flags _ _ _ _))

theorem movs16_eq {s : State} (hsi : s.regs.si ≠ 0xFFFF#16) (hdi : s.regs.di ≠ 0xFFFF#16) : movs16 s = .ok
    { wroteWord s.sregs.es s.regs.di (s.loadWord (phys (srcSeg s) s.regs.si))
        (s.logEvents (s.wordReadCycles (phys (srcSeg s) s.regs.si))) with
      regs := { s.regs with si := advance 2 s.regs.si s, di := advance 2 s.regs.di s } } := by
  rw [movs16, readWord_ok s hsi, ok_bind]
  simp only [logEvents_sregs, logEvents_regs]
  rw [writeWord_ok _ _ hdi, ok_bind, advanceBoth_eq 2 (wroteWord_regs _ _ _ _) (wroteWord_flags _ _ _ _)]
  rfl

theorem stos8_eq (s : State) : stos8 s = .ok
    { writeByte s.sregs.es s.regs.di (s.reg8 .al) (s.logEvents []) with
      regs := { s.regs with di := advance 1 s.regs.di s } } := by
  rw [logEvents_nil]
  exact congrArg Except.ok (advanceDi_eq 1 (writeByte_regs _ _ _ _) (writeByte_flags _ _ _ _))

theorem stos16_eq {s : State} (hdi : s.regs.di ≠ 0xFFFF#16) : stos16 s = .ok
    { wroteWord s.sregs.es s.regs.di s.regs.ax (s.logEvents []) with
      regs := { s.regs with di := advance 2 s.regs.di s } } := by
  rw [stos16, writeWord_ok _ _ hdi, ok_bind, advanceDi_eq 2 (wroteWord_regs _ _ _ _) (wroteWord_flags _ _ _ _), logEvents_nil]

/-! ### LODS, CMPS and SCAS -/

theorem lods16_eq {s : State} (hsi : s.regs.si ≠ 0xFFFF#16) : lods16 s = .ok { s with
    regs := { s.regs with ax := s.loadWord (phys (srcSeg s) s.regs.si), si := advance 2 s.regs.si s }
    busLog := s.busLog ++ s.wordReadCycles (phys (srcSeg s) s.regs.si) } := by
  rw [lods16, readWord_ok s hsi]; rfl

theorem logEvents_logEvents (s : State) (es fs : List BusEvent) : (s.logEvents es).logEvents fs = s.logEvents (es ++ fs) := by
  simp [State.logEvents]

/-- A byte read after other memory cycles is the byte of before. -/
theorem readByte_logEvents (seg off : Word) (s : State) (es : List BusEvent) : readByte seg off (s.logEvents es) =
    (s.loadByte (phys seg off), s.logEvents (es ++ [.memRead false (phys seg off) (zeroExt (s.loadByte (phys seg off)))])) := by
  have hload : (s.logEvents es).loadByte (phys seg off) = s.loadByte (phys seg off) :=
    loadByte_congr rfl (logEvents_region s es) rfl _
  rw [readByte, memReadByte, hload, logEvents_logEvents]

theorem cmps8_eq (s : State) : cmps8 s = .ok { s with
    regs := { s.regs with si := advance 1 s.regs.si s, di := advance 1 s.regs.di s }
    flags := (subW (s.loadByte (phys (srcSeg s) s.regs.si)) (s.nextFree.loadByte (phys s.sregs.es s.regs.di)) false s.flags).2
    busLog := s.busLog ++ ([.memRead false (phys (srcSeg s) s.regs.si) (zeroExt (s.loadByte (phys (srcSeg s) s.regs.si)))] ++
      [.memRead false (phys s.sregs.es s.regs.di) (zeroExt (s.nextFree.loadByte (phys s.sregs.es s.regs.di)))])
    freeCount := s.freeCount + 1 } := by
  have hdest := readByte_logEvents s.sregs.es s.regs.di s.nextFree
    [.memRead false (phys (srcSeg s) s.regs.si) (zeroExt (s.loadByte (phys (srcSeg s) s.regs.si)))]
  have hsecond : readByte s.sregs.es s.regs.di (readByte (srcSeg s) s.regs.si s).2.nextFree = _ := hdest
  rw [cmps8]
  simp only [hsecond]
  rfl

theorem cmps16_eq {s : State} (hsi : s.regs.si ≠ 0xFFFF#16) (hdi : s.regs.di ≠ 0xFFFF#16) : cmps16 s = .ok { s with
    regs := { s.regs with si := advance 2 s.regs.si s, di := advance 2 s.regs.di s }
    flags := (subW (s.loadWord (phys (srcSeg s) s.regs.si)) (s.nextFree.loadWord (phys s.sregs.es s.regs.di)) false s.flags).2
    busLog := s.busLog ++ (s.wordReadCycles (phys (srcSeg s) s.regs.si) ++ s.nextFree.wordReadCycles (phys s.sregs.es s.regs.di))
    freeCount := s.freeCount + 1 } := by
  have hdest := readWord_logEvents (seg := s.sregs.es) s.nextFree (s.wordReadCycles (phys (srcSeg s) s.regs.si)) hdi
  rw [cmps16, readWord_ok s hsi, ok_bind]
  refine (congrArg (· >>= _) hdest).trans ?_
  rfl

theorem scas16_eq {s : State} (hdi : s.regs.di ≠ 0xFFFF#16) : scas16 s = .ok { s with
    regs := { s.regs with di := advance 2 s.regs.di s }
    flags := (subW s.regs.ax (s.loadWord (phys s.sregs.es s.regs.di)) false s.flags).2
    busLog := s.busLog ++ s.wordReadCycles (phys s.sregs.es s.regs.di) } := by
  rw [scas16, readWord_ok s hdi]; rfl

/-- Settles O42: each instruction is its element, whose lemma says what it answers. -/
theorem stringElements : Obligations.StringElements := by
  refine ⟨fun s hrep => ⟨?movsb, fun hsi hdi => ?movsw, ?stosb, fun hdi => ?stosw, ?lodsb, fun hsi => ?lodsw⟩,
    fun s hrep => ⟨?cmpsb, fun hsi hdi => ?cmpsw, ?scasb, fun hdi => ?scasw⟩⟩
  case movsb => exact stores_byte (dataCycles_readByte _ _) (exec_element rfl hrep (movs8_eq s))
  case movsw => exact stores_word (dataCycles_readWord _ _) (exec_element rfl hrep (movs16_eq hsi hdi))
  case stosb => exact stores_byte dataCycles_nil (exec_element rfl hrep (stos8_eq s))
  case stosw => exact stores_word dataCycles_nil (exec_element rfl hrep (stos16_eq hdi))
  case lodsb =>
    have hal := reg8_setReg8_same s .al (s.loadByte (phys (srcSeg s) s.regs.si))
    have hah := reg8_setReg8_ne s (s.loadByte (phys (srcSeg s) s.regs.si)) (show Reg8.ah ≠ .al by decide)
    exact ⟨_, exec_element rfl hrep rfl, hal, hah, rfl, _, dataCycles_readByte _ _, rfl⟩
  case lodsw => exact ⟨_, dataCycles_readWord _ _, exec_element rfl hrep (lods16_eq hsi)⟩
  case cmpsb =>
    exact ⟨_, exec_element rfl hrep (cmps8_eq s), rfl,
      ⟨_, dataCycles_append (dataCycles_readByte _ _) (dataCycles_readByte _ _), rfl⟩, subW_flags _ _ _ _⟩
  case cmpsw =>
    exact ⟨_, exec_element rfl hrep (cmps16_eq hsi hdi), rfl,
      ⟨_, dataCycles_append (dataCycles_readWord _ _) (dataCycles_readWord _ _), rfl⟩, subW_flags _ _ _ _⟩
  case scasb =>
    exact ⟨_, exec_element rfl hrep rfl, rfl, ⟨_, dataCycles_readByte _ _, rfl⟩, subW_flags _ _ _ _⟩
  case scasw =>
    exact ⟨_, exec_element rfl hrep (scas16_eq hdi), rfl, ⟨_, dataCycles_readWord _ _, rfl⟩, subW_flags _ _ _ _⟩

/-! ### INS and OUTS -/

/-- The state after a word is read from a port (`20_memory.md` R90). -/
def afterWordIn (port : Word) (s : State) : State :=
  { s with
    ioIn := if splits port.toNat then s.ioIn.tail.tail else s.ioIn.tail
    busLog := s.busLog ++ wordCycles .input (splits port.toNat) port (port + 1) (s.deviceWord port) }

theorem ioReadWord_ok {port : Word} (s : State) (h : port ≤ 0xF6#16 ∨ 0x100#16 ≤ port) (hlast : port ≠ 0xFFFF#16) :
    ioReadWord port s = .ok (s.deviceWord port, afterWordIn port s) := by
  rw [ioReadWord, checkPort_word_ok h hlast]; rfl

theorem in16_eq {port : Word} (s : State) (h : port ≤ 0xF6#16 ∨ 0x100#16 ≤ port) (hlast : port ≠ 0xFFFF#16) :
    in16 port s = .ok ((afterWordIn port s).setReg16 .ax (s.deviceWord port)) := by
  rw [in16, ioReadWord_ok s h hlast]; rfl

theorem ins8_eq {s : State} (h : s.regs.dx ≤ 0xF7#16 ∨ 0x100#16 ≤ s.regs.dx) : ins8 s = .ok
    { writeByte s.sregs.es s.regs.di (s.deviceByte s.regs.dx) (s.afterByteIn s.regs.dx) with
      regs := { s.regs with di := advance 1 s.regs.di s } } := by
  rw [ins8, ioReadByte, checkPort_byte_ok h]
  exact congrArg Except.ok (advanceDi_eq 1 (writeByte_regs _ _ _ _) (writeByte_flags _ _ _ _))

theorem ins16_eq {s : State} (h : s.regs.dx ≤ 0xF6#16 ∨ 0x100#16 ≤ s.regs.dx) (hlast : s.regs.dx ≠ 0xFFFF#16)
    (hdi : s.regs.di ≠ 0xFFFF#16) : ins16 s = .ok
    { wroteWord s.sregs.es s.regs.di (s.deviceWord s.regs.dx) ((afterWordIn s.regs.dx s).logEvents []) with
      regs := { s.regs with di := advance 2 s.regs.di s } } := by
  have hwrite := writeWord_ok (seg := s.sregs.es) (s.deviceWord s.regs.dx) (afterWordIn s.regs.dx s) hdi
  rw [ins16, ioReadWord_ok s h hlast, ok_bind, logEvents_nil]
  refine (congrArg (· >>= _) hwrite).trans ?_
  exact congrArg Except.ok (advanceDi_eq 2 (wroteWord_regs _ _ _ _) (wroteWord_flags _ _ _ _))

theorem outs8_eq {s : State} (h : s.regs.dx ≤ 0xF7#16 ∨ 0x100#16 ≤ s.regs.dx) : outs8 s = .ok { s with
    regs := { s.regs with si := advance 1 s.regs.si s }
    busLog := s.busLog ++
      [.memRead false (phys (srcSeg s) s.regs.si) (zeroExt (s.loadByte (phys (srcSeg s) s.regs.si))),
       .output false s.regs.dx (zeroExt (s.loadByte (phys (srcSeg s) s.regs.si)))] } := by
  rw [outs8, ioWriteByte, checkPort_byte_ok h]
  exact congrArg (fun log => Except.ok { s with regs := { s.regs with si := advance 1 s.regs.si s }, busLog := log })
    (List.append_assoc s.busLog [_] [_])

/-- What OUTSW sends to the port DX, OUT sends from AX (R376). -/
theorem outs16_eq {s : State} (h : s.regs.dx ≤ 0xF6#16 ∨ 0x100#16 ≤ s.regs.dx) (hlast : s.regs.dx ≠ 0xFFFF#16)
    (hsi : s.regs.si ≠ 0xFFFF#16) : outs16 s = .ok { (s.logEvents (s.wordReadCycles (phys (srcSeg s) s.regs.si))).logEvents
      (wordCycles .output (splits s.regs.dx.toNat) s.regs.dx (s.regs.dx + 1) (s.loadWord (phys (srcSeg s) s.regs.si))) with
    regs := { s.regs with si := advance 2 s.regs.si s } } := by
  rw [outs16, readWord_ok s hsi, ok_bind]
  simp only [logEvents_regs]
  rw [ioWriteWord, checkPort_word_ok h hlast]
  rfl

/-- Settles O43. -/
theorem portStrings : Obligations.PortStrings := by
  intro s hrep src next
  refine ⟨fun h => ⟨?insb, _, rfl, exec_element rfl hrep (outs8_eq h)⟩,
    fun h hlast => ⟨fun hdi => ?insw, fun hsi => ?outsw⟩⟩
  case insb =>
    have hin : exec .inAlDx s = .next ((s.afterByteIn s.regs.dx).setReg8 .al (s.deviceByte s.regs.dx)) :=
      congrArg outcome (in8_eq s h)
    have hal : ((s.afterByteIn s.regs.dx).setReg8 .al (s.deviceByte s.regs.dx)).reg8 .al = s.deviceByte s.regs.dx :=
      reg8_setReg8_same _ _ _
    have hmemory := memSame_writeByte s.sregs.es s.regs.di (s.deviceByte s.regs.dx) (s.afterByteIn s.regs.dx)
    refine ⟨_, _, hin, exec_element rfl hrep (ins8_eq h), ?_, ?_, hmemory.bytes, hmemory.devices⟩
    · rw [hal, writeByte_rest]; rfl
    · rw [hal]; exact read_writeByte (s := s.afterByteIn s.regs.dx) _
  case insw =>
    obtain ⟨t, ht, hrest, hcycles, hvalue, hmemory⟩ := stores_word (r := exec .insw s) (s := afterWordIn s.regs.dx s) dataCycles_nil
      (exec_element rfl hrep (ins16_eq h hlast hdi))
    exact ⟨_, t, congrArg outcome (in16_eq s h hlast), ht, hrest, hcycles, hvalue, hmemory.bytes, hmemory.devices⟩
  case outsw =>
    exact ⟨_, _, dataCycles_readWord s (phys (srcSeg s) s.regs.si), congrArg outcome (out16_eq _ h hlast),
      exec_element rfl hrep (outs16_eq h hlast hsi)⟩

end Sys2Proof.Proofs
end

section
/-! SUPPORT. Proofs of the statements about repeat prefixes (`43_string.md` R361, R362). -/

namespace Sys2Proof.Proofs

open Sys2Proof Sys2Proof.Machine Sys2Proof.Safety Sys2Proof.Laws

/-! ### What the spec refuses (`92` D33) -/

theorem stringStep_repne {self : Instr} {body : State → Except Stop State} {s : State} (h : s.pfx.rep = some .repne) :
    stringStep self false body s = .error (.refused .repneOnNonCompare) := by simp [stringStep, h]

theorem repeatWith_conflict {r x : Rep} {s : State} (h : s.pfx.rep = some x) (hne : x ≠ r) :
    repeatWith r s = .error (.refused .repConflict) := by simp [repeatWith, h, hne]

/-- Repeat prefixes may stand before the string instructions and the prefixes alone. -/
theorem takesRep_eq_false {i : Instr} (hstring : ¬isString i)
    (hprefix : i ∉ [Instr.segEs, .segCs, .segSs, .segDs, .lock, .rep, .repne]) : takesRep i = false := by
  unfold takesRep
  split
  case h_22 => rfl
  all_goals simp [isString] at hstring hprefix

theorem step_of_misuse {s : State} {i : Instr} {rest : List Byte} (hdue : dueInterrupt s = none) (hhalt : s.halted = false)
    (hrep : s.repeating = none) (hdecode : decode (fetch s).1 = .instr i rest) (huse : repMisused i s = true) :
    step s = .refused .repOnNonString := by
  simp [step, hdue, hhalt, hrep, hdecode, huse]

/-- Settles O45. -/
theorem repeatMisuseRefused : Obligations.RepeatMisuseRefused := by
  intro s
  refine ⟨fun hrep => ?elements, fun hrep => ?rep, fun hrep => ?repne,
    fun i hdue hhalt hbetween hrep hdecode hstring hprefix => ?other⟩
  case elements =>
    have refused {self body} : outcome (stringStep self false body s) = .refused .repneOnNonCompare :=
      congrArg outcome (stringStep_repne hrep)
    simp only [List.forall_mem_cons, List.not_mem_nil, false_imp_iff, implies_true, and_true]
    exact ⟨refused, refused, refused, refused, refused, refused, refused, refused, refused, refused⟩
  case rep => exact congrArg outcome (repeatWith_conflict hrep (by decide))
  case repne => exact congrArg outcome (repeatWith_conflict hrep (by decide))
  case other =>
    obtain ⟨rest, hdecode⟩ := hdecode
    refine step_of_misuse hdue hhalt hbetween hdecode ?_
    rw [repMisused, takesRep_eq_false hstring hprefix, Option.isSome_iff_ne_none.mpr hrep]
    rfl

/-! ### What an element does not look at -/

/-- The state with other values of REP or REPNE, of the count, and of the offset of the opcode byte. -/
def inRepeat (rep : Option Rep) (cx opIp : Word) (s : State) : State :=
  { s with pfx := { s.pfx with rep := rep }, regs := { s.regs with cx := cx }, opIp := opIp }

/-- The element neither reads nor writes REP or REPNE, CX and the offset of the opcode byte. -/
def IgnoresRepeat (body : State → Except Stop State) : Prop :=
  ∀ rep cx opIp s, body (inRepeat rep cx opIp s) = inRepeat rep cx opIp <$> body s

/-- Two computations in two parts, where each part of one is the image of the other's. -/
theorem map_bind_comm {α β : Type} {x y : Except Stop α} {f g : α → Except Stop β} {F : α → α} {G : β → β}
    (hx : y = F <$> x) (hf : ∀ a, g (F a) = G <$> f a) : (y >>= g) = G <$> (x >>= f) := by
  subst hx
  cases x with
  | error => rfl
  | ok a => exact hf a

section Operations

variable {rep : Option Rep} {cx opIp : Word}

theorem storeByte_inRepeat (a : Nat) (v : Byte) (s : State) :
    (inRepeat rep cx opIp s).storeByte a v = inRepeat rep cx opIp (s.storeByte a v) := by
  have hregion : (inRepeat rep cx opIp s).region a = s.region a := rfl
  unfold State.storeByte
  rw [hregion]
  split <;> rfl

theorem writeByte_inRepeat (seg off : Word) (v : Byte) (s : State) :
    writeByte seg off v (inRepeat rep cx opIp s) = inRepeat rep cx opIp (writeByte seg off v s) := by
  rw [writeByte, storeByte_inRepeat]; rfl

theorem readByte_inRepeat (seg off : Word) (s : State) :
    readByte seg off (inRepeat rep cx opIp s) = Prod.map id (inRepeat rep cx opIp) (readByte seg off s) := rfl

theorem readWord_inRepeat (seg off : Word) (s : State) :
    readWord seg off (inRepeat rep cx opIp s) = Prod.map id (inRepeat rep cx opIp) <$> readWord seg off s := by
  unfold readWord
  split <;> rfl

theorem writeWord_inRepeat (seg off v : Word) (s : State) :
    writeWord seg off v (inRepeat rep cx opIp s) = inRepeat rep cx opIp <$> writeWord seg off v s := by
  unfold writeWord State.storeWord
  split
  · rfl
  · rw [storeByte_inRepeat, storeByte_inRepeat]; rfl

theorem ioReadByte_inRepeat (port : Word) (s : State) :
    ioReadByte port (inRepeat rep cx opIp s) = Prod.map id (inRepeat rep cx opIp) <$> ioReadByte port s := by
  unfold ioReadByte
  cases checkPort false port <;> rfl

theorem ioReadWord_inRepeat (port : Word) (s : State) :
    ioReadWord port (inRepeat rep cx opIp s) = Prod.map id (inRepeat rep cx opIp) <$> ioReadWord port s := by
  unfold ioReadWord
  cases checkPort true port <;> rfl

theorem ioWriteByte_inRepeat (port : Word) (v : Byte) (s : State) :
    ioWriteByte port v (inRepeat rep cx opIp s) = inRepeat rep cx opIp <$> ioWriteByte port v s := by
  unfold ioWriteByte
  cases checkPort false port <;> rfl

theorem ioWriteWord_inRepeat (port v : Word) (s : State) :
    ioWriteWord port v (inRepeat rep cx opIp s) = inRepeat rep cx opIp <$> ioWriteWord port v s := by
  unfold ioWriteWord
  cases checkPort true port <;> rfl

end Operations

theorem movs8_ignoresRepeat : IgnoresRepeat movs8 := fun _ _ _ s =>
  congrArg (fun t : State => Except.ok ((t.advanceSi 1).advanceDi 1))
    (writeByte_inRepeat s.sregs.es s.regs.di (s.loadByte (phys (srcSeg s) s.regs.si)) (readByte (srcSeg s) s.regs.si s).2)

theorem movs16_ignoresRepeat : IgnoresRepeat movs16 := fun _ _ _ s =>
  map_bind_comm (readWord_inRepeat (srcSeg s) s.regs.si s) fun _ => map_bind_comm (writeWord_inRepeat _ _ _ _) fun _ => rfl

theorem cmps8_ignoresRepeat : IgnoresRepeat cmps8 := fun rep cx opIp s =>
  congrArg (fun p : Byte × State => Except.ok
      (((p.2.setFlags (subW (s.loadByte (phys (srcSeg s) s.regs.si)) p.1 false s.flags).2).advanceSi 1).advanceDi 1))
    (readByte_inRepeat (rep := rep) (cx := cx) (opIp := opIp) s.sregs.es s.regs.di (readByte (srcSeg s) s.regs.si s).2.nextFree)

theorem cmps16_ignoresRepeat : IgnoresRepeat cmps16 := fun rep cx opIp s =>
  map_bind_comm (readWord_inRepeat (srcSeg s) s.regs.si s) fun p =>
    map_bind_comm (readWord_inRepeat (rep := rep) (cx := cx) (opIp := opIp) p.2.sregs.es p.2.regs.di p.2.nextFree) fun _ => rfl

theorem scas8_ignoresRepeat : IgnoresRepeat scas8 := fun _ _ _ _ => rfl

theorem scas16_ignoresRepeat : IgnoresRepeat scas16 := fun _ _ _ s =>
  map_bind_comm (readWord_inRepeat s.sregs.es s.regs.di s) fun _ => rfl

theorem lods8_ignoresRepeat : IgnoresRepeat lods8 := fun _ _ _ _ => rfl

theorem lods16_ignoresRepeat : IgnoresRepeat lods16 := fun _ _ _ s =>
  map_bind_comm (readWord_inRepeat (srcSeg s) s.regs.si s) fun _ => rfl

theorem stos8_ignoresRepeat : IgnoresRepeat stos8 := fun _ _ _ s =>
  congrArg (fun t : State => Except.ok (t.advanceDi 1)) (writeByte_inRepeat s.sregs.es s.regs.di (s.reg8 .al) s)

theorem stos16_ignoresRepeat : IgnoresRepeat stos16 := fun _ _ _ s =>
  map_bind_comm (writeWord_inRepeat s.sregs.es s.regs.di s.regs.ax s) fun _ => rfl

theorem ins8_ignoresRepeat : IgnoresRepeat ins8 := fun _ _ _ s =>
  map_bind_comm (ioReadByte_inRepeat s.regs.dx s) fun p =>
    congrArg (fun t : State => Except.ok (t.advanceDi 1)) (writeByte_inRepeat p.2.sregs.es p.2.regs.di p.1 p.2)

theorem ins16_ignoresRepeat : IgnoresRepeat ins16 := fun _ _ _ s =>
  map_bind_comm (ioReadWord_inRepeat s.regs.dx s) fun p =>
    map_bind_comm (writeWord_inRepeat p.2.sregs.es p.2.regs.di p.1 p.2) fun _ => rfl

theorem outs8_ignoresRepeat : IgnoresRepeat outs8 := fun _ _ _ s =>
  map_bind_comm (ioWriteByte_inRepeat s.regs.dx (s.loadByte (phys (srcSeg s) s.regs.si)) (readByte (srcSeg s) s.regs.si s).2)
    fun _ => rfl

theorem outs16_ignoresRepeat : IgnoresRepeat outs16 := fun _ _ _ s =>
  map_bind_comm (readWord_inRepeat (srcSeg s) s.regs.si s) fun p =>
    map_bind_comm (ioWriteWord_inRepeat p.2.regs.dx p.1 p.2) fun _ => rfl

theorem IgnoresRepeat.kept {body : State → Except Stop State} (hbody : IgnoresRepeat body) {s t : State} (h : body s = .ok t) :
    t.regs.cx = s.regs.cx ∧ t.opIp = s.opIp := by
  have himage : body s = inRepeat s.pfx.rep s.regs.cx s.opIp <$> body s := hbody s.pfx.rep s.regs.cx s.opIp s
  rw [h] at himage
  have ht : t = inRepeat s.pfx.rep s.regs.cx s.opIp t := Except.ok.inj himage
  exact ⟨by rw [ht]; rfl, by rw [ht]; rfl⟩

/-! ### One iteration -/

/-- The string instruction `i` has the element `body`, which leaves the control part and what counts its repetitions alone. -/
structure HasElement (i : Instr) (compare : Bool) (body : State → Except Stop State) : Prop where
  exec_eq : ∀ s, exec i s = outcome (stringStep i compare body s)
  compares : compare = true ↔ i ∈ [Instr.cmpsb, .cmpsw, .scasb, .scasw]
  keeps : ∀ s, Keeps s (body s)
  ignoresRepeat : IgnoresRepeat body

theorem exists_hasElement {i : Instr} (hi : isString i) : ∃ compare body, HasElement i compare body := by
  simp only [isString, List.mem_cons, List.not_mem_nil, or_false] at hi
  rcases hi with rfl | rfl | rfl | rfl | rfl | rfl | rfl | rfl | rfl | rfl | rfl | rfl | rfl | rfl
  · exact ⟨false, movs8, fun _ => rfl, by simp, movs8_keeps, movs8_ignoresRepeat⟩
  · exact ⟨false, movs16, fun _ => rfl, by simp, movs16_keeps, movs16_ignoresRepeat⟩
  · exact ⟨true, cmps8, fun _ => rfl, by simp, cmps8_keeps, cmps8_ignoresRepeat⟩
  · exact ⟨true, cmps16, fun _ => rfl, by simp, cmps16_keeps, cmps16_ignoresRepeat⟩
  · exact ⟨true, scas8, fun _ => rfl, by simp, scas8_keeps, scas8_ignoresRepeat⟩
  · exact ⟨true, scas16, fun _ => rfl, by simp, scas16_keeps, scas16_ignoresRepeat⟩
  · exact ⟨false, lods8, fun _ => rfl, by simp, lods8_keeps, lods8_ignoresRepeat⟩
  · exact ⟨false, lods16, fun _ => rfl, by simp, lods16_keeps, lods16_ignoresRepeat⟩
  · exact ⟨false, stos8, fun _ => rfl, by simp, stos8_keeps, stos8_ignoresRepeat⟩
  · exact ⟨false, stos16, fun _ => rfl, by simp, stos16_keeps, stos16_ignoresRepeat⟩
  · exact ⟨false, ins8, fun _ => rfl, by simp, ins8_keeps, ins8_ignoresRepeat⟩
  · exact ⟨false, ins16, fun _ => rfl, by simp, ins16_keeps, ins16_ignoresRepeat⟩
  · exact ⟨false, outs8, fun _ => rfl, by simp, outs8_keeps, outs8_ignoresRepeat⟩
  · exact ⟨false, outs16, fun _ => rfl, by simp, outs16_keeps, outs16_ignoresRepeat⟩

/-- The `z` bit of REP is set and that of REPNE clear (`30_encoding.md` R123). -/
theorem repZ_eq (r : Rep) : repZ r = decide (r = .rep) := by cases r <;> rfl

section Iteration

variable {i : Instr} {compare : Bool} {body : State → Except Stop State} {r : Rep} {s u : State}

theorem HasElement.not_repneMisuse (helement : HasElement i compare body)
    (huse : r = .rep ∨ i ∈ [Instr.cmpsb, .cmpsw, .scasb, .scasw]) : ¬(compare = false ∧ r = .repne) := by
  rintro ⟨hfalse, rfl⟩
  have htrue := helement.compares.mpr (huse.resolve_left nofun)
  exact Bool.false_ne_true (hfalse.symm.trans htrue)

theorem stringStep_count_zero (huse : ¬(compare = false ∧ r = .repne)) (hrep : s.pfx.rep = some r) (hcx : s.regs.cx = 0) :
    stringStep i compare body s = .ok s := by
  simp only [stringStep, hrep, if_neg huse, if_pos hcx]

theorem stringStep_iteration (huse : ¬(compare = false ∧ r = .repne)) (hrep : s.pfx.rep = some r) (hcx : s.regs.cx ≠ 0)
    (hbody : body s = .ok u) : stringStep i compare body s = .ok (afterElement i compare r u) := by
  simp only [stringStep, hrep, if_neg huse, if_neg hcx, hbody, ok_bind]

/-- The element under REP or REPNE is the element without it. -/
theorem HasElement.body_underRepeat (helement : HasElement i compare body)
    (h : body { s with pfx := { s.pfx with rep := none } } = .ok u) :
    body s = .ok { u with pfx := s.pfx } ∧ u.regs.cx = s.regs.cx ∧ u.opIp = s.opIp ∧ u.inShadow = s.inShadow ∧
      u.inStiShadow = s.inStiShadow := by
  obtain ⟨hcx, hop⟩ := helement.ignoresRepeat.kept h
  have hcontrol := helement.keeps _ u h
  have hpfx : u.pfx = { s.pfx with rep := none } := pfx_of_control_eq hcontrol
  refine ⟨?_, hcx, hop, congrArg Control.inShadow hcontrol, congrArg Control.inStiShadow hcontrol⟩
  calc body s = inRepeat s.pfx.rep s.regs.cx s.opIp <$> body { s with pfx := { s.pfx with rep := none } } :=
        helement.ignoresRepeat s.pfx.rep s.regs.cx s.opIp { s with pfx := { s.pfx with rep := none } }
    _ = .ok { u with pfx := s.pfx } := by
        rw [h, ← hcx, ← hop]
        exact congrArg (fun p : Prefixes => Except.ok { u with pfx := { p with rep := s.pfx.rep } }) hpfx

theorem afterElement_over {t : State} (h : t.regs.cx - 1 = 0 ∨ (compare = true ∧ t.flags.zf ≠ repZ r)) :
    afterElement i compare r t = { t with regs := { t.regs with cx := t.regs.cx - 1 } } := if_pos h

theorem afterElement_goesOn {t : State} (h : ¬(t.regs.cx - 1 = 0 ∨ (compare = true ∧ t.flags.zf ≠ repZ r))) :
    afterElement i compare r t = { t with
      regs := { t.regs with cx := t.regs.cx - 1 }, ip := t.opIp - 1, inhibitNext := t.inShadow, stiShadow := t.inStiShadow
      repeating := some i } := if_neg h

end Iteration

/-! ### An interrupt between two iterations -/

/-- An interrupt sequence that answers had room for its frame, clear of the vector. -/
theorem entryOk_of_enter {n : Byte} {s t : State} (h : enter n s = .ok t) : EntryOk n s := by
  obtain ⟨hoverlap, -⟩ := enter_eq_ok.mp h
  rcases enter_wordsBelow hoverlap with hends | ⟨-, -, hwords⟩
  · exact absurd (h.symm.trans hends) nofun
  · exact ⟨hwords 0 (by decide), hwords 1 (by decide), hwords 2 (by decide), by simpa [frameOverlaps] using hoverlap⟩

theorem entered_of_enter {n : Byte} {s t : State} (h : enter n s = .ok t) : Entered n s.ip s t := by
  obtain ⟨u, hu, hentered⟩ := enter_entered (entryOk_of_enter h)
  exact Except.ok.inj (hu.symm.trans h) ▸ hentered

/-- An interrupt sequence ends what was in progress, and saves the return offset last. -/
theorem entered_ends {n : Byte} {ret : Word} {s t : State} (h : Entered n ret s t) :
    t.pfx = Prefixes.none ∧ t.inPrefix = false ∧ t.repeating = none ∧
      (Ram (frameBytes s) s → heldWord t s.sregs.ss (s.regs.sp - 6) = ret) :=
  ⟨congrArg State.pfx h.rest, congrArg State.inPrefix h.rest, congrArg State.repeating h.rest, fun hram => (h.frame hram).1⟩

theorem takeInterrupt_ends {d : Due} {s t : State} (h : takeInterrupt d s = .ok t) :
    t.pfx = Prefixes.none ∧ t.inPrefix = false ∧ t.repeating = none ∧
      (Ram (frameBytes s) s → heldWord t s.sregs.ss (s.regs.sp - 6) = s.ip) := by
  cases d with
  | nmi => exact entered_ends (s := { s with nmiPending := false }) (entered_of_enter h)
  | intr n => exact entered_ends (s := State.logEvents { s with intr := none } [.intAck n]) (entered_of_enter h)

/-- Settles O44: the element under REP or REPNE is the one without it, and between two iterations the invariant has IP at the byte
before the opcode. -/
theorem repeatedStrings : Obligations.RepeatedStrings := by
  refine ⟨fun d i s t hinv hrepeating h => ?interrupted, fun i r s hi hrep hforms => ?iteration⟩
  case interrupted =>
    obtain ⟨-, -, -, hip, -, -⟩ := hinv.repeated i hrepeating
    exact hip ▸ takeInterrupt_ends h
  case iteration =>
    obtain ⟨compare, body, helement⟩ := exists_hasElement hi
    have huse := helement.not_repneMisuse hforms
    refine ⟨fun hcx => ?_, fun u hcx h => ?_⟩
    · rw [helement.exec_eq, stringStep_count_zero huse hrep hcx, outcome_ok]
    · have hnone : body { s with pfx := { s.pfx with rep := none } } = .ok u := by
        rwa [helement.exec_eq, stringStep_once rfl, outcome_eq_next] at h
      obtain ⟨hbody, hcount, hop, hshadow, hsti⟩ := helement.body_underRepeat hnone
      refine ⟨_, by rw [helement.exec_eq, stringStep_iteration huse hrep hcx hbody, outcome_ok], ?_⟩
      have hends : (u.regs.cx - 1 = 0 ∨ (compare = true ∧ u.flags.zf ≠ repZ r)) ↔ (u.regs.cx - 1 = 0 ∨
          (i ∈ [Instr.cmpsb, .cmpsw, .scasb, .scasw] ∧ u.flags.zf ≠ decide (r = .rep))) := by rw [helement.compares, repZ_eq]
      rw [← hcount, ← hop, ← hshadow, ← hsti]
      split
      case isTrue hover => exact afterElement_over (t := { u with pfx := s.pfx }) (hends.mpr hover)
      case isFalse hgoes => exact afterElement_goesOn (t := { u with pfx := s.pfx }) (mt hends.mp hgoes)

end Sys2Proof.Proofs
end

section
/-! SUPPORT. Proofs of the statements about the conditional jumps, the loops and JMP (`44_program_transfer.md` R400 to R434, R445 to
R448). -/

namespace Sys2Proof.Proofs

open Sys2Proof Sys2Proof.Machine Sys2Proof.Safety Sys2Proof.Laws

/-! ### The conditional jumps -/

/-- An instruction that is a conditional jump, by the value of its condition (R405). -/
theorem exec_jcc {i : Instr} {c : Cond} {d : Byte} {s : State} {b : Bool} (h : exec i s = outcome (jcc c d s))
    (hb : c.holds s.flags = b) : exec i s = .next (if b then { s with ip := s.ip + d.signExtend 16, stale := [] } else s) := by
  rw [h, jcc, outcome_ok, hb]; rfl

theorem holds_a (f : Flags) : Cond.holds .a f = (!f.cf && !f.zf) := Bool.not_or _ _

theorem holds_ge (f : Flags) : Cond.holds .ge f = (f.sf == f.ofl) := Bool.not_not _

theorem holds_le (f : Flags) : Cond.holds .le f = (f.zf || (f.sf != f.ofl)) := Bool.or_comm _ _

theorem holds_g (f : Flags) : Cond.holds .g f = (!f.zf && (f.sf == f.ofl)) :=
  calc Cond.holds .g f = !(Cond.holds .le f) := rfl
    _ = (!f.zf && !(f.sf != f.ofl)) := by rw [holds_le, Bool.not_or]
    _ = (!f.zf && (f.sf == f.ofl)) := congrArg (!f.zf && ·) (Bool.not_not _)

/-! ### The loops -/

/-- CX is counted down, and then decides together with the instruction's own condition (R445 to R447). -/
theorem exec_loopIf {i : Instr} {cond : Bool} {d : Byte} {s : State} (h : exec i s = outcome (loopIf cond d s)) : exec i s =
    .next (if decide (s.regs.cx - 1 ≠ 0) && cond then
      { s with regs := { s.regs with cx := s.regs.cx - 1 }, ip := s.ip + d.signExtend 16, stale := [] }
    else { s with regs := { s.regs with cx := s.regs.cx - 1 } }) := by
  simp only [Bool.and_eq_true, decide_eq_true_iff]
  exact h

theorem exec_jcxz (d : Byte) (s : State) : exec (.jcxz d) s =
    .next (if decide (s.regs.cx = 0) then { s with ip := s.ip + d.signExtend 16, stale := [] } else s) := by
  simp only [decide_eq_true_iff]
  rfl

/-- Settles O46: each jump is `jcc` with its condition of Table 2-10, each loop `loopIf` with its own. -/
theorem conditionalJumpsAndLoops : Obligations.ConditionalJumpsAndLoops := by
  refine ⟨⟨fun d rest => rfl, fun s d => ?jumps⟩, ⟨fun d rest => ?loopBytes, fun s d => ?loops⟩⟩
  case jumps =>
    exact ⟨exec_jcc (c := .o) rfl rfl, exec_jcc (c := .no) rfl rfl, exec_jcc (c := .b) rfl rfl, exec_jcc (c := .ae) rfl rfl,
      exec_jcc (c := .e) rfl rfl, exec_jcc (c := .ne) rfl rfl, exec_jcc (c := .be) rfl rfl, exec_jcc rfl (holds_a _),
      exec_jcc (c := .s) rfl rfl, exec_jcc (c := .ns) rfl rfl, exec_jcc (c := .p) rfl rfl, exec_jcc (c := .np) rfl rfl,
      exec_jcc (c := .l) rfl rfl, exec_jcc rfl (holds_ge _), exec_jcc rfl (holds_le _), exec_jcc rfl (holds_g _)⟩
  case loopBytes =>
    exact ⟨decodeOfEncode (.loop d) rest rfl, decodeOfEncode (.loope d) rest rfl, decodeOfEncode (.loopne d) rest rfl,
      decodeOfEncode (.jcxz d) rest rfl⟩
  case loops =>
    have hloop := exec_loopIf (i := .loop d) (s := s) rfl
    rw [Bool.and_true] at hloop
    exact ⟨hloop, exec_loopIf rfl, exec_loopIf rfl, exec_jcxz d s⟩

/-! ### JMP -/

theorem exec_jmpRm16 {rm : Rm16} {s : State} (h : Accessible rm s) :
    Completes (exec (.jmpRm16 rm) s) s { s with ip := opWord rm s, stale := [] } := by
  refine ⟨_, dataCycles_read16 rm s, ?_⟩
  show outcome (jumpIndirect rm s) = _
  rw [jumpIndirect, getRm16_ok h]; rfl

/-- A far pointer's two words, with the memory cycles of both. -/
theorem readPointer_logged {seg off : Word} {s : State} (h : off ≤ 0xFFFC#16) : ∃ es, DataCycles es ∧
    readPointer seg off s = .ok (s.loadWord (phys seg off), s.loadWord (phys seg (off + 2)), s.logEvents es) :=
  ⟨_, dataCycles_append (dataCycles_readWord s _) (dataCycles_readWord s _), readPointer_ok s h⟩

theorem exec_jmpMem32 {m : Mem} {s : State} (h : ea m s ≤ 0xFFFC#16) : Completes (exec (.jmpMem32 m) s) s { s with
    sregs := { s.sregs with cs := s.loadWord (phys (memSeg m s) (ea m s + 2)) }
    ip := s.loadWord (phys (memSeg m s) (ea m s)), stale := [] } := by
  obtain ⟨es, hes, hread⟩ := readPointer_logged (seg := memSeg m s) h
  refine ⟨es, hes, ?_⟩
  show outcome (jumpFarIndirect m s) = _
  rw [jumpFarIndirect, hread]; rfl

/-- Settles O47: the direct forms are their transfer, the indirect ones read the target first. -/
theorem jumps : Obligations.Jumps :=
  ⟨fun a _ _ _ rest => ⟨decodeOfEncode (.jmpShort a) rest rfl, decode_cons _ _, decode_cons _ _⟩, fun _ =>
    ⟨fun _ => rfl, fun _ => rfl, fun _ => exec_jmpRm16, fun _ _ => rfl, fun _ => exec_jmpMem32⟩⟩

end Sys2Proof.Proofs
end

section
/-! SUPPORT. Proofs of the statements about CALL and RET (`44_program_transfer.md` R435 to R443). -/

namespace Sys2Proof.Proofs

open Sys2Proof Sys2Proof.Machine Sys2Proof.Safety Sys2Proof.Laws

/-! ### A word pushed, and what a push keeps -/

section Pushed

variable {v w : Word} {s t u : State}

theorem pushed_sp (h : Pushed v s t) : t.regs.sp = s.regs.sp - 2 := by rw [h.rest]

theorem pushed_sregs (h : Pushed v s t) : t.sregs = s.sregs := by rw [h.rest]

theorem pushed_region (h : Pushed v s t) : t.region = s.region := by rw [h.rest]; rfl

theorem sub_two_sub_two (a : Word) : a - 2 - 2 = a - 4 := BitVec.sub_sub _ _ _

/-- Of two words pushed one after the other, the later leaves the earlier alone. -/
theorem pushed_twice_held (hv : Pushed v s t) (hw : Pushed w t u) (hend2 : s.regs.sp - 2 ≠ 0xFFFF#16)
    (hend4 : s.regs.sp - 4 ≠ 0xFFFF#16)
    (hram : Ram (wordBytes s.sregs.ss (s.regs.sp - 2) ++ wordBytes s.sregs.ss (s.regs.sp - 4)) s) :
    heldWord u s.sregs.ss (s.regs.sp - 2) = v ∧ heldWord u s.sregs.ss (s.regs.sp - 4) = w := by
  obtain ⟨hram2, hram4⟩ := List.forall_mem_append.mp hram
  have hvalue := hw.value
  have hmemory := hw.memory
  rw [pushed_sregs hv, pushed_sp hv, sub_two_sub_two] at hvalue hmemory
  have hapart := wordBytes_disjoint s.sregs.ss hend2 hend4 (by bv_omega) (by bv_omega) (by bv_omega)
  exact ⟨(heldWord_congr hmemory hapart).trans (hv.value hram2), hvalue fun a ha => pushed_region hv ▸ hram4 a ha⟩

end Pushed

/-! ### CALL -/

/-- A near call after memory cycles, which an indirect one needs for its target (R435, R436). -/
theorem callNearTo_pushed {target : Word} {s : State} {es : List BusEvent} (hes : DataCycles es)
    (hsp : s.regs.sp - 2 ≠ 0xFFFF#16) :
    ∃ u, Pushed s.ip s u ∧ callNearTo target (s.logEvents es) = .ok { u with ip := target, stale := [] } := by
  have hpush : push s.ip (s.logEvents es) = .ok (afterPush s.ip (s.logEvents es)) := push_eq _ hsp
  refine ⟨_, push_pushed_after (n := s.freeCount) hes hpush, ?_⟩
  rw [callNearTo, show (s.logEvents es).ip = s.ip from rfl, hpush]; rfl

/-- A far call after memory cycles (R437, R438): CS is pushed first. -/
theorem callFarTo_pushed {seg off : Word} {s : State} {es : List BusEvent} (hes : DataCycles es)
    (hend2 : s.regs.sp - 2 ≠ 0xFFFF#16) (hend4 : s.regs.sp - 4 ≠ 0xFFFF#16) :
    ∃ u t, Pushed s.sregs.cs s u ∧ Pushed s.ip u t ∧
      callFarTo seg off (s.logEvents es) = .ok { t with sregs := { s.sregs with cs := seg }, ip := off, stale := [] } := by
  obtain ⟨u, hpushCs⟩ := push_ok (s := s.logEvents es) s.sregs.cs hend2
  have hcs : Pushed s.sregs.cs s u := push_pushed_after (n := s.freeCount) hes hpushCs
  have hipKept : u.ip = s.ip := by rw [hcs.rest]
  obtain ⟨t, hpushIp⟩ := push_ok (s := u) s.ip (by rw [pushed_sp hcs, sub_two_sub_two]; exact hend4)
  have hip := push_pushed hpushIp
  refine ⟨u, t, hcs, hip, ?_⟩
  rw [callFarTo, show (s.logEvents es).sregs = s.sregs from rfl, hpushCs, ok_bind, hipKept, hpushIp, ok_bind,
    ← pushed_sregs hcs, ← pushed_sregs hip]
  rfl

theorem exec_callNear {s : State} (d : Word) (hsp : s.regs.sp - 2 ≠ 0xFFFF#16) :
    ∃ u, Pushed s.ip s u ∧ exec (.callNear d) s = .next { u with ip := s.ip + d, stale := [] } := by
  obtain ⟨u, hu, hcall⟩ := callNearTo_pushed (target := s.ip + d) (s := s) dataCycles_nil hsp
  rw [logEvents_nil] at hcall
  exact ⟨u, hu, congrArg outcome hcall⟩

theorem exec_callRm16 {rm : Rm16} {s : State} (hsp : s.regs.sp - 2 ≠ 0xFFFF#16) (h : Accessible rm s) :
    ∃ u, Pushed s.ip s u ∧ exec (.callRm16 rm) s = .next { u with ip := opWord rm s, stale := [] } := by
  obtain ⟨u, hu, hcall⟩ := callNearTo_pushed (target := opWord rm s) (dataCycles_read16 rm s) hsp
  refine ⟨u, hu, ?_⟩
  show outcome (callIndirect rm s) = _
  rw [callIndirect, getRm16_ok h, ok_bind]
  exact congrArg outcome hcall

theorem exec_callFar {s : State} (off seg : Word) (hend2 : s.regs.sp - 2 ≠ 0xFFFF#16) (hend4 : s.regs.sp - 4 ≠ 0xFFFF#16) :
    ∃ u t, Pushed s.sregs.cs s u ∧ Pushed s.ip u t ∧
      exec (.callFar off seg) s = .next { t with sregs := { s.sregs with cs := seg }, ip := off, stale := [] } := by
  obtain ⟨u, t, hcs, hip, hcall⟩ := callFarTo_pushed (seg := seg) (off := off) (s := s) dataCycles_nil hend2 hend4
  rw [logEvents_nil] at hcall
  exact ⟨u, t, hcs, hip, congrArg outcome hcall⟩

theorem exec_callMem32 {m : Mem} {s : State} (hend2 : s.regs.sp - 2 ≠ 0xFFFF#16) (hend4 : s.regs.sp - 4 ≠ 0xFFFF#16)
    (h : ea m s ≤ 0xFFFC#16) : ∃ u t, Pushed s.sregs.cs s u ∧ Pushed s.ip u t ∧ exec (.callMem32 m) s = .next { t with
      sregs := { s.sregs with cs := s.loadWord (phys (memSeg m s) (ea m s + 2)) }
      ip := s.loadWord (phys (memSeg m s) (ea m s)), stale := [] } := by
  obtain ⟨es, hes, hread⟩ := readPointer_logged (seg := memSeg m s) h
  obtain ⟨u, t, hcs, hip, hcall⟩ := callFarTo_pushed hes hend2 hend4
  refine ⟨u, t, hcs, hip, ?_⟩
  show outcome (callFarIndirect m s) = _
  rw [callFarIndirect, hread, ok_bind]
  exact congrArg outcome hcall

/-- Settles O48: the indirect forms read their target before the pushes. -/
theorem calls : Obligations.Calls := fun _ hend2 =>
  ⟨fun d => exec_callNear d hend2, fun _ => exec_callRm16 hend2, fun hend4 =>
    ⟨fun off seg => exec_callFar off seg hend2 hend4, fun _ => exec_callMem32 hend2 hend4⟩⟩

/-! ### RET -/

theorem stackTop_eq (s : State) : stackTop s = stackWord s 0 := by
  rw [stackWord, show s.regs.sp + 0 = s.regs.sp from BitVec.add_zero _]; rfl

/-- A transfer of control, which does not look at the log, ends a meaning after its pops. -/
theorem completes_transfer {s u : State} {rs : Regs} (h : ReadTo s rs u) (transfer : State → State)
    (hlog : ∀ t es, transfer { t with busLog := es } = { transfer t with busLog := es }) :
    Completes (outcome (.ok (transfer u))) s (transfer { s with regs := rs }) := by
  obtain ⟨hrest, es, hes, hcycles⟩ := h
  refine ⟨es, hes, ?_⟩
  rw [outcome_ok, hrest, hcycles]
  exact congrArg _ (hlog { s with regs := rs } _)

/-- `v` bytes of parameters discarded after pops (R441, R443). -/
theorem readTo_discard {s u : State} {rs : Regs} (h : ReadTo s rs u) {v sp : Word} (hsp : sp = rs.sp + v) :
    ReadTo s { rs with sp := sp } (u.setReg16 .sp (u.regs.sp + v)) := by
  have hregs : u.regs.sp = rs.sp := by rw [h.rest]
  rw [hregs, ← hsp]
  exact readTo_setReg16 h .sp sp

theorem stackStart_ne {sp : Word} (h : sp ≠ 0xFFFF#16) : sp + 0 ≠ 0xFFFF#16 := by
  rwa [show sp + 0 = sp from BitVec.add_zero _]

theorem retNearTo_completes {s : State} {v sp : Word} (hend : s.regs.sp ≠ 0xFFFF#16) (hsp : sp = s.regs.sp + 2 + v) :
    Completes (outcome (retNearTo v s)) s { s with regs := { s.regs with sp := sp }, ip := stackTop s, stale := [] } := by
  rw [stackTop_eq]
  exact completes_pop_bind 0 (readTo_refl s) (BitVec.add_zero _).symm (stackStart_ne hend) fun _ hip =>
    completes_transfer (readTo_discard hip hsp) (·.jump _) fun _ _ => rfl

theorem retFarTo_completes {s : State} {v sp : Word} (hend : s.regs.sp ≠ 0xFFFF#16) (hend2 : s.regs.sp + 2 ≠ 0xFFFF#16)
    (hsp : sp = s.regs.sp + 4 + v) : Completes (outcome (retFarTo v s)) s { s with
      regs := { s.regs with sp := sp }, ip := stackTop s, sregs := { s.sregs with cs := stackWord s 2 }, stale := [] } := by
  rw [stackTop_eq]
  exact completes_pop_bind 0 (readTo_refl s) (BitVec.add_zero _).symm (stackStart_ne hend) fun _ hip =>
    completes_pop_bind 2 hip rfl hend2 fun _ hcs => completes_transfer (readTo_discard hcs hsp) (·.farJump _ _) fun _ _ => rfl

/-! ### What a call or an interrupt sequence saved is what the return from it loads -/

/-- From `s` to `t` SP went down by `n`, and of the other registers only CS, IP and the flags may have changed. -/
structure SpLowered (n : Word) (s t : State) : Prop where
  regs : t.regs = { s.regs with sp := s.regs.sp - n }
  sregs : t.sregs = { s.sregs with cs := t.sregs.cs }
  region : t.region = s.region

section SpLowered

variable {n k m v : Word} {s t : State}

theorem spLowered_regs_back (h : SpLowered n s t) : { t.regs with sp := t.regs.sp + n } = s.regs := by
  rw [h.regs, BitVec.sub_add_cancel]

theorem spLowered_sregs_back (h : SpLowered n s t) : { t.sregs with cs := s.sregs.cs } = s.sregs := by rw [h.sregs]

/-- The word `k` bytes above the new top of the stack is `m` bytes below the old one. -/
theorem spLowered_sp_add (h : SpLowered n s t) (hkm : n = k + m) : t.regs.sp + k = s.regs.sp - m := by
  rw [h.regs, hkm]; bv_omega

theorem spLowered_sp_add_ne (h : SpLowered n s t) (hend : s.regs.sp - m ≠ 0xFFFF#16) (hkm : n = k + m) :
    t.regs.sp + k ≠ 0xFFFF#16 := by
  rwa [spLowered_sp_add h hkm]

theorem spLowered_sp_ne (h : SpLowered n s t) (hend : s.regs.sp - n ≠ 0xFFFF#16) : t.regs.sp ≠ 0xFFFF#16 := by
  rwa [h.regs]

/-- A word saved in RAM is found again by the return. -/
theorem spLowered_stackWord (h : SpLowered n s t) (hram : Ram (wordBytes s.sregs.ss (s.regs.sp - m)) s) (hkm : n = k + m)
    (hheld : heldWord t s.sregs.ss (s.regs.sp - m) = v) : stackWord t k = v := by
  rw [stackWord, spLowered_sp_add h hkm, show t.sregs.ss = s.sregs.ss by rw [h.sregs],
    loadWord_ram fun a ha => by rw [h.region]; exact hram a ha, hheld]

theorem spLowered_stackTop (h : SpLowered n s t) (hram : Ram (wordBytes s.sregs.ss (s.regs.sp - n)) s)
    (hheld : heldWord t s.sregs.ss (s.regs.sp - n) = v) : stackTop t = v := by
  rw [stackTop_eq]
  exact spLowered_stackWord h hram (BitVec.zero_add _).symm hheld

end SpLowered

/-! ### RET undoes CALL -/

theorem callNearTo_wordsBelow (target : Word) (s : State) :
    AnswersOrEnds (callNearTo target s) fun _ => WordsBelow 1 s.regs.sp :=
  push_bind_wordsBelow fun _ _ => answersOrEnds_ok (wordsBelow_zero _)

theorem callNear_saves {s t : State} {d : Word} (h : exec (.callNear d) s = .next t) :
    s.regs.sp - 2 ≠ 0xFFFF#16 ∧ SpLowered 2 s t ∧ t.sregs = s.sregs ∧ t.flags = s.flags ∧
      (Ram (wordBytes s.sregs.ss (s.regs.sp - 2)) s → heldWord t s.sregs.ss (s.regs.sp - 2) = s.ip) := by
  have hcall : callNearTo (s.ip + d) s = .ok t := outcome_eq_next.mp h
  have hwords : WordsBelow 1 s.regs.sp := answersOrEnds_of_ok (a := t) (hcall ▸ callNearTo_wordsBelow (s.ip + d) s)
  have hsp : s.regs.sp - 2 ≠ 0xFFFF#16 := hwords 0 (by decide)
  obtain ⟨u, hu, hexec⟩ := exec_callNear d hsp
  obtain rfl := Host.Outcome.next.inj (h.symm.trans hexec)
  have hregs : u.regs = { s.regs with sp := s.regs.sp - 2 } := by rw [hu.rest]
  have hsregs : u.sregs = s.sregs := pushed_sregs hu
  have hregion : u.region = s.region := pushed_region hu
  have hflags : u.flags = s.flags := by rw [hu.rest]
  exact ⟨hsp, ⟨hregs, by rw [hsregs], hregion⟩, hsregs, hflags, hu.value⟩

theorem retNear_after_callNear {s t : State} {d : Word} (hram : Ram (wordBytes s.sregs.ss (s.regs.sp - 2)) s)
    (h : exec (.callNear d) s = .next t) :
    ∃ u, exec .retNear t = .next u ∧ u.ip = s.ip ∧ u.regs = s.regs ∧ u.sregs = s.sregs ∧ u.flags = s.flags := by
  obtain ⟨hend, hlow, hsregs, hflags, hheld⟩ := callNear_saves h
  obtain ⟨es, -, hret⟩ := retNearTo_completes (spLowered_sp_ne hlow hend) (BitVec.add_zero _).symm
  exact ⟨_, hret, spLowered_stackTop hlow hram (hheld hram), spLowered_regs_back hlow, hsregs, hflags⟩

theorem callFar_saves {s t : State} {off seg : Word} (h : exec (.callFar off seg) s = .next t) :
    s.regs.sp - 2 ≠ 0xFFFF#16 ∧ s.regs.sp - 4 ≠ 0xFFFF#16 ∧ SpLowered 4 s t ∧ t.flags = s.flags ∧
      (Ram (wordBytes s.sregs.ss (s.regs.sp - 2) ++ wordBytes s.sregs.ss (s.regs.sp - 4)) s →
        heldWord t s.sregs.ss (s.regs.sp - 2) = s.sregs.cs ∧ heldWord t s.sregs.ss (s.regs.sp - 4) = s.ip) := by
  have hcall : callFarTo seg off s = .ok t := outcome_eq_next.mp h
  have hwords : WordsBelow 2 s.regs.sp := answersOrEnds_of_ok (a := t) (hcall ▸ callFarTo_wordsBelow seg off s)
  have hend2 : s.regs.sp - 2 ≠ 0xFFFF#16 := hwords 0 (by decide)
  have hend4 : s.regs.sp - 4 ≠ 0xFFFF#16 := hwords 1 (by decide)
  obtain ⟨a, b, hcs, hip, hexec⟩ := exec_callFar off seg hend2 hend4
  obtain rfl := Host.Outcome.next.inj (h.symm.trans hexec)
  have hregs : b.regs = { s.regs with sp := s.regs.sp - 4 } := by rw [hip.rest, hcs.rest, ← sub_two_sub_two]
  have hflags : b.flags = s.flags := by rw [hip.rest, hcs.rest]
  have hregion : b.region = s.region := (pushed_region hip).trans (pushed_region hcs)
  have hheld := pushed_twice_held hcs hip hend2 hend4
  exact ⟨hend2, hend4, ⟨hregs, rfl, hregion⟩, hflags, hheld⟩

theorem retFar_after_callFar {s t : State} {off seg : Word}
    (hram : Ram (wordBytes s.sregs.ss (s.regs.sp - 2) ++ wordBytes s.sregs.ss (s.regs.sp - 4)) s)
    (h : exec (.callFar off seg) s = .next t) :
    ∃ u, exec .retFar t = .next u ∧ u.ip = s.ip ∧ u.regs = s.regs ∧ u.sregs = s.sregs ∧ u.flags = s.flags := by
  obtain ⟨hend2, hend4, hlow, hflags, hheld⟩ := callFar_saves h
  obtain ⟨hheldCs, hheldIp⟩ := hheld hram
  obtain ⟨hram2, hram4⟩ := List.forall_mem_append.mp hram
  have hcs : stackWord t 2 = s.sregs.cs := spLowered_stackWord hlow hram2 rfl hheldCs
  obtain ⟨es, -, hret⟩ := retFarTo_completes (spLowered_sp_ne hlow hend4) (spLowered_sp_add_ne hlow hend2 rfl)
    (BitVec.add_zero _).symm
  rw [hcs] at hret
  exact ⟨_, hret, spLowered_stackTop hlow hram4 hheldIp, spLowered_regs_back hlow, spLowered_sregs_back hlow, hflags⟩

/-- Settles O49: each form is its pops and one transfer; the word that a call saved is the one that its return pops. -/
theorem returns : Obligations.Returns := by
  refine ⟨⟨fun a b rest => ?bytes, fun s v hend => ?forms⟩, fun s t d off seg =>
    ⟨retNear_after_callNear, retFar_after_callFar⟩⟩
  case bytes =>
    exact ⟨decodeOfEncode .retNear rest rfl, decode_cons _ _, decodeOfEncode .retFar rest rfl, decode_cons _ _⟩
  case forms =>
    exact ⟨retNearTo_completes hend (BitVec.add_zero _).symm, retNearTo_completes hend rfl, fun hend2 =>
      ⟨retFarTo_completes hend hend2 (BitVec.add_zero _).symm, retFarTo_completes hend hend2 rfl⟩⟩

end Sys2Proof.Proofs
end

section
/-! SUPPORT. Proofs of the statements about software interrupts and IRET (`44_program_transfer.md` R450 to R454, `60_exceptions.md`
R510, R511). -/

namespace Sys2Proof.Proofs

open Sys2Proof Sys2Proof.Machine Sys2Proof.Safety Sys2Proof.Laws

/-! ### INT and INTO -/

/-- An entry from IP as it stands, which is the next instruction's. -/
theorem takes_of_raiseTrap {n : Byte} {r : Result} {s : State} (h : EntryOk n s) (hr : r = outcome (raiseTrap n s)) :
    Takes n s.ip r s := takes_of_enter h hr

theorem exec_into_of_ofl {s : State} (h : s.flags.ofl = true) : exec .into s = outcome (raiseTrap 4 s) :=
  congrArg outcome (if_pos h)

theorem exec_into_of_not_ofl {s : State} (h : s.flags.ofl = false) : exec .into s = .next s :=
  congrArg outcome (if_neg (Bool.eq_false_iff.mp h))

/-- Settles O51: each raises its trap from the IP that it finds. -/
theorem softwareInterrupts : Obligations.SoftwareInterrupts := by
  refine ⟨fun n rest => ?bytes, fun s => ⟨fun n h => takes_of_raiseTrap h rfl, fun h => takes_of_raiseTrap h rfl,
    fun h hofl => takes_of_raiseTrap h (exec_into_of_ofl hofl), exec_into_of_not_ofl⟩⟩
  case bytes =>
    exact ⟨decodeOfEncode (.intImm8 n) rest rfl, decodeOfEncode .int3 rest rfl, decodeOfEncode .into rest rfl⟩

/-! ### IRET -/

/-- IRET pops three words, the PSW image last (R454). -/
theorem exec_iret {s : State} (hend : s.regs.sp ≠ 0xFFFF#16) (hend2 : s.regs.sp + 2 ≠ 0xFFFF#16)
    (hend4 : s.regs.sp + 4 ≠ 0xFFFF#16) : Completes (exec .iret s) s { s with
      regs := { s.regs with sp := s.regs.sp + 6 }
      sregs := { s.sregs with cs := stackWord s 2 }
      ip := stackTop s
      flags := flagsOfImage (stackWord s 4)
      stale := [] } := by
  rw [stackTop_eq]
  exact completes_pop_bind 0 (readTo_refl s) (BitVec.add_zero _).symm (stackStart_ne hend) fun _ hip =>
    completes_pop_bind 2 hip rfl hend2 fun _ hcs =>
    completes_pop_bind 4 hcs rfl hend4 fun _ hpsw =>
    completes_transfer hpsw (fun t => (t.setFlags _).farJump _ _) fun _ _ => rfl

theorem entered_spLowered {n : Byte} {ret : Word} {s t : State} (h : Entered n ret s t) : SpLowered 6 s t where
  regs := congrArg State.regs h.rest
  sregs := congrArg State.sregs h.rest
  region := by rw [h.rest]; rfl

/-- The frame in RAM gives CS, IP and the flags back (R505). -/
theorem iret_after_enter {n : Byte} {s t : State} (hram : Ram (frameBytes s) s) (h : enter n s = .ok t) :
    ∃ u, exec .iret t = .next u ∧ u.ip = s.ip ∧ u.sregs = s.sregs ∧ u.regs = s.regs ∧ u.flags = s.flags := by
  obtain ⟨hend2, hend4, hend6, -⟩ := entryOk_of_enter h
  have hentered := entered_of_enter h
  have hlow := entered_spLowered hentered
  obtain ⟨hheldIp, hheldCs, hheldPsw⟩ := hentered.frame hram
  simp only [frameBytes_eq, Ram, List.forall_mem_append] at hram
  obtain ⟨hram2, hram4, hram6⟩ := hram
  have hcs : stackWord t 2 = s.sregs.cs := spLowered_stackWord hlow hram4 rfl hheldCs
  have hpsw : flagsOfImage (stackWord t 4) = s.flags :=
    (congrArg flagsOfImage (spLowered_stackWord hlow hram2 rfl rfl)).trans hheldPsw
  obtain ⟨es, -, hiret⟩ := exec_iret (spLowered_sp_ne hlow hend6) (spLowered_sp_add_ne hlow hend4 rfl)
    (spLowered_sp_add_ne hlow hend2 rfl)
  rw [hcs, hpsw] at hiret
  exact ⟨_, hiret, spLowered_stackTop hlow hram6 hheldIp, spLowered_sregs_back hlow, spLowered_regs_back hlow, rfl⟩

/-- Settles O52: the three words that the entry pushed are those that IRET pops. -/
theorem iretReturns : Obligations.IretReturns := ⟨fun _ => exec_iret, fun _ _ _ => iret_after_enter⟩

end Sys2Proof.Proofs
end

section
/-! SUPPORT. Proofs of the statements about processor control and the prefixes (`45_processor_control.md`). -/

namespace Sys2Proof.Proofs

open Sys2Proof Sys2Proof.Machine Sys2Proof.Safety Sys2Proof.Laws

/-! ### ESC (R485, R529) -/

theorem escape_raises {s : State} (h : s.numericsMode = false ∨ s.et = true ∨ Config.bus16 = false) :
    escape s = enterAtStart 7 s := if_pos (by simpa [or_assoc] using h)

theorem escape_handed {s : State} (hmode : s.numericsMode = true) (het : s.et = false) (hbus : Config.bus16 = true) :
    escape s = .error (.refused .coprocessor) := if_neg (by simp [hmode, het, hbus])

/-- A fault: the entry is made from the first byte of the instruction (R505). -/
theorem takes_of_enterAtStart {n : Byte} {r : Result} {s : State} (h : EntryOk n s) (hr : r = outcome (enterAtStart n s)) :
    Takes n s.startIp r { s with ip := s.startIp } := takes_of_enter (s := { s with ip := s.startIp }) h hr

/-- Settles O60: the part and the two mode bits decide between the fault and the 80C187. -/
theorem escapeFaults : Obligations.EscapeFaults := by
  intro s x y rm
  have raises (hok : EntryOk 7 s) (h : s.numericsMode = false ∨ s.et = true ∨ Config.bus16 = false) :
      Takes 7 s.startIp (exec (.esc x y rm) s) { s with ip := s.startIp } :=
    takes_of_enterAtStart hok (congrArg outcome (escape_raises h))
  refine ⟨fun h hok => raises hok (h.imp_right .inl), fun hmode het hok => ?_⟩
  split
  case isTrue hbus => exact congrArg outcome (escape_handed hmode het hbus)
  case isFalse hbus => exact raises hok (.inr (.inr (Bool.eq_false_iff.mpr hbus)))

/-! ### The flag operations (R471 to R475, R477) -/

/-- When a boundary takes a maskable request (R476, `60_exceptions.md` R521, R535). -/
theorem dueInterrupt_eq_intr {s : State} {n : Byte} (h : dueInterrupt s = some (.intr n)) :
    boundaryOpen s = true ∧ s.nmiPending = false ∧ s.flags.ifl = true ∧ s.stiShadow = false ∧ s.intr = some n := by
  unfold dueInterrupt at h
  split at h
  case isTrue hopen =>
    split at h
    case isTrue => cases h
    case isFalse hnmi => exact ⟨hopen, Bool.eq_false_iff.mpr hnmi, by simpa [and_assoc] using h⟩
  case isFalse => cases h

theorem dueInterrupt_ne_intr_of_not_ifl {s : State} (h : s.flags.ifl = false) (n : Byte) : dueInterrupt s ≠ some (.intr n) := by
  intro hdue
  obtain ⟨-, -, hifl, -, -⟩ := dueInterrupt_eq_intr hdue
  exact Bool.false_ne_true (h.symm.trans hifl)

/-- Settles O58: each is one flag written, and with IF clear a boundary takes no maskable request. -/
theorem flagOperations : Obligations.FlagOperations := by
  refine ⟨fun rest => ?bytes, fun s => ⟨rfl, rfl, rfl, rfl, rfl, rfl, dueInterrupt_ne_intr_of_not_ifl rfl⟩⟩
  case bytes =>
    exact ⟨decodeOfEncode .stc rest rfl, decodeOfEncode .clc rest rfl, decodeOfEncode .cmc rest rfl,
      decodeOfEncode .std rest rfl, decodeOfEncode .cld rest rfl, decodeOfEncode .cli rest rfl⟩

/-! ### WAIT and the halted machine (R480, R481) -/

theorem exec_wait_of_test {s : State} (h : s.testActive = true) : exec .wait s = .next { s with afterWait := true } :=
  congrArg outcome (if_pos h)

theorem exec_wait_of_not_test {s : State} (h : s.testActive = false) : exec .wait s = .next { s with
    inhibitNext := s.inShadow, stiShadow := s.inStiShadow, ip := s.startIp, afterWait := true } :=
  congrArg outcome (if_neg (Bool.eq_false_iff.mp h))

theorem step_of_halted {s : State} (hdue : dueInterrupt s = none) (hhalt : s.halted = true) :
    step s = finish false (.next s) := by simp [step, hdue, hhalt]

theorem retire_of_no_prefixes {s : State} (h : s.pfx = Prefixes.none) : retire s = s := by
  unfold retire
  split
  · rfl
  · rw [← h]

theorem step_halted_stays {s : State} (hhalt : s.halted = true) (hdue : dueInterrupt s = none) (henv : s.env = [])
    (hpfx : s.pfx = Prefixes.none) : step s = .next s :=
  calc step s = finish false (.next s) := step_of_halted hdue hhalt
    _ = .next (retire s) := finish_quiet henv
    _ = .next s := by rw [retire_of_no_prefixes hpfx]

/-! ### The repeat prefixes (`43_string.md` R361) -/

theorem repeatWith_ok {r : Rep} {s : State} (h : ∀ x, s.pfx.rep = some x → x = r) :
    repeatWith r s = .ok { s with pfx := { s.pfx with rep := some r }, inPrefix := true } := by
  refine if_neg fun ⟨hsome, hne⟩ => ?_
  obtain ⟨x, hx⟩ := Option.isSome_iff_exists.mp hsome
  exact hne (hx.trans (congrArg some (h x hx)))

theorem exec_rep {s : State} (h : s.pfx.rep ≠ some .repne) :
    exec .rep s = .next { s with pfx := { s.pfx with rep := some .rep }, inPrefix := true } :=
  congrArg outcome (repeatWith_ok fun
    | .rep, _ => rfl
    | .repne, hx => absurd hx h)

theorem exec_repne {s : State} (h : s.pfx.rep ≠ some .rep) :
    exec .repne s = .next { s with pfx := { s.pfx with rep := some .repne }, inPrefix := true } :=
  congrArg outcome (repeatWith_ok fun
    | .rep, hx => absurd hx h
    | .repne, _ => rfl)

/-- Settles O59: WAIT turns on TEST#, a repeat prefix on the one before it, and the rest is the state written once. -/
theorem haltWaitNopStiPrefixes : Obligations.HaltWaitNopStiPrefixes :=
  ⟨fun _ => ⟨rfl, exec_wait_of_test, exec_wait_of_not_test, rfl, rfl,
      fun hhalt hdue henv _ _ hpfx => step_halted_stays hhalt hdue henv hpfx⟩,
    fun _ => ⟨rfl, rfl, rfl, rfl, rfl, exec_rep, exec_repne⟩⟩

end Sys2Proof.Proofs
end

section
/-! SUPPORT. Proofs of the statements about interrupts and exceptions (`60_exceptions.md`): the sequence, an undefined opcode, what an
open boundary takes, the inputs at the end of a step, and the single-step trap. -/

namespace Sys2Proof.Proofs

open Sys2Proof Sys2Proof.Machine Sys2Proof.Safety Sys2Proof.Laws

/-! ### The sequence (R510) -/

/-- Settles O50: the pushes and the vector's reads, each of which `EntryOk` lets through. -/
theorem interruptSequence : Obligations.InterruptSequence := fun _ _ => enter_entered

/-- Of what the next boundary looks at, the sequence clears IF, and leaves the latch, the schedule and the marks. -/
theorem enter_boundary {n : Byte} {s t : State} (h : enter n s = .ok t) :
    t.env = s.env ∧ t.nmiPending = s.nmiPending ∧ t.flags.ifl = false ∧ t.inhibitNext = s.inhibitNext ∧ t.afterWait = s.afterWait := by
  rw [enter_rest h]
  exact ⟨rfl, rfl, rfl, rfl, rfl⟩

/-! ### The end of a step -/

/-- With no input scheduled and no prefix in force, the end of a step is the single-step trap alone. -/
theorem finish_of_no_prefixes {tf0 : Bool} {s : State} (henv : s.env = []) (hpfx : s.pfx = Prefixes.none) :
    finish tf0 (.next s) = outcome (stepTrap tf0 s) := by
  simp only [finish, finishState, henv, retire_of_no_prefixes hpfx]

/-- One entry of the schedule is read at the end of a step (log 21). -/
theorem finish_of_input {s : State} {e : EnvInput} {rest : List EnvInput} (henv : s.env = e :: rest) (hreset : e.reset = false) :
    finish false (.next s) = .next (retire (State.setPins { s with env := rest } e)) := by
  simp [finish, finishState, henv, hreset, stepTrap, stepTrapDue]

theorem retire_nmiPending (s : State) : (retire s).nmiPending = s.nmiPending := by unfold retire; split <;> rfl

/-- The prefixes that are dropped are those of an instruction that is over, so no LOCKed string is in progress. -/
theorem boundaryOpen_retire (s : State) : boundaryOpen (retire s) = boundaryOpen s := by
  unfold retire
  split
  case isTrue => rfl
  case isFalse hover =>
    obtain ⟨-, hrepeating⟩ : s.inPrefix = false ∧ s.repeating = none := by simpa using hover
    simp [boundaryOpen, hrepeating]

/-! ### An undefined opcode (R528) -/

theorem step_of_undefined {s : State} (hdue : dueInterrupt s = none) (hhalt : s.halted = false) (hrep : s.repeating = none)
    (hdecode : decode (fetch s).1 = .undefined) :
    step s = finish s.flags.tf (outcome (invalidOpcode (begin 0 (fetch s).2))) := by
  simp [step, hdue, hhalt, hrep, hdecode]

/-- With nothing stale, fetching leaves the state as it is. -/
theorem fetch_state_fresh {s : State} (h : s.stale = []) : (fetch s).2 = s := congrArg Prod.snd (fetchBytes_fresh h maxLength s.ip)

/-- Settles O8: type 6 is entered from the first byte's offset, and with TF clear the step ends there. -/
theorem undefinedOpcodeRaises : Obligations.UndefinedOpcodeRaises := by
  intro s hdue hhalt hrep htf hstale henv hdecode hok
  obtain ⟨t, ht, hentered⟩ : Takes 6 (begin 0 s).startIp (outcome (invalidOpcode (begin 0 s))) (begin 0 s) :=
    takes_of_enter hok (congrArg outcome (invalidOpcode_eq _))
  have htenv : t.env = [] := (congrArg State.env hentered.rest).trans henv
  obtain ⟨htpfx, -⟩ := entered_ends hentered
  refine ⟨t, ?_, hentered⟩
  calc step s = finish s.flags.tf (outcome (invalidOpcode (begin 0 (fetch s).2))) := step_of_undefined hdue hhalt hrep hdecode
    _ = finish false (.next t) := by rw [htf, fetch_state_fresh hstale, ht]
    _ = .next (retire t) := finish_quiet htenv
    _ = .next t := by rw [retire_of_no_prefixes htpfx]

/-! ### What an open boundary takes (R520, R521, R535) -/

theorem boundaryOpen_iff {s : State} : boundaryOpen s = true ↔ s.inPrefix = false ∧ s.inhibitNext = false ∧
    ¬(s.repeating.isSome = true ∧ s.pfx.lock = true ∧ Config.lockedRepInterruptible = false) := by
  have hlocked : (s.repeating.isNone || !s.pfx.lock || Config.lockedRepInterruptible) = true ↔
      ¬(s.repeating.isSome = true ∧ s.pfx.lock = true ∧ Config.lockedRepInterruptible = false) := by
    cases s.repeating <;> cases s.pfx.lock <;> simp
  simp only [boundaryOpen, Bool.and_eq_true, Bool.not_eq_true', hlocked, and_assoc]

theorem dueInterrupt_of_closed {s : State} (h : boundaryOpen s = false) : dueInterrupt s = none := by simp [dueInterrupt, h]

theorem stepTrapDue_of_closed {s : State} (h : boundaryOpen s = false) (tf0 : Bool) : stepTrapDue tf0 s = false := by
  simp [stepTrapDue, h]

theorem dueInterrupt_of_nmi {s : State} (hopen : boundaryOpen s = true) (hnmi : s.nmiPending = true) :
    dueInterrupt s = some .nmi := by simp [dueInterrupt, hopen, hnmi]

theorem dueInterrupt_of_intr {s : State} {n : Byte} (hopen : boundaryOpen s = true) (hnmi : s.nmiPending = false)
    (hifl : s.flags.ifl = true) (hsti : s.stiShadow = false) (hintr : s.intr = some n) : dueInterrupt s = some (.intr n) := by
  simp [dueInterrupt, hopen, hnmi, hifl, hsti, hintr]

/-- Without NMI, and with IF clear, nothing is taken, open or not. -/
theorem dueInterrupt_of_masked {s : State} (hnmi : s.nmiPending = false) (hifl : s.flags.ifl = false) : dueInterrupt s = none := by
  simp [dueInterrupt, hnmi, hifl]

theorem step_of_due {s : State} {d : Due} (h : dueInterrupt s = some d) :
    step s = finish (s.flags.tf && s.repeating.isNone) (outcome (takeInterrupt d s)) := by simp [step, h]

/-- Settles O53: each clause is what is due at the boundary, and the step takes what is due. -/
theorem boundaryRecognition : Obligations.BoundaryRecognition := by
  refine fun s => ⟨boundaryOpen_iff, fun hrep hlock hshut => ?locked, fun hopen => ⟨fun hnmi => ?nmi,
    fun hnmi hifl hsti n hintr => ?intr, dueInterrupt_of_masked⟩⟩
  case locked =>
    have hclosed : ¬boundaryOpen s = true := fun hopen =>
      have ⟨_, _, hwindow⟩ := boundaryOpen_iff.mp hopen
      hwindow ⟨hrep, hlock, hshut⟩
    exact dueInterrupt_of_closed (Bool.eq_false_iff.mpr hclosed)
  case nmi => exact step_of_due (dueInterrupt_of_nmi hopen hnmi)
  case intr => exact step_of_due (dueInterrupt_of_intr hopen hnmi hifl hsti hintr)

/-! ### The inputs (R520) -/

/-- Settles O55: the latch is part of what the end of a step leaves, and NMI is the first of what the next boundary takes. -/
theorem environmentPins : Obligations.EnvironmentPins := by
  refine fun s e rest henv hreset => ⟨finish_of_input henv hreset, retire_nmiPending _, fun hnmi hopen => ?due,
    fun u hu => ⟨hu, ?cleared⟩⟩
  case due =>
    have hlatched : (s.nmiPending || e.nmiEdge) = true := Bool.or_eq_true_iff.mpr hnmi
    exact dueInterrupt_of_nmi ((boundaryOpen_retire _).trans hopen) ((retire_nmiPending _).trans hlatched)
  case cleared =>
    obtain ⟨-, hnmi, -⟩ := enter_boundary hu
    exact hnmi

/-! ### The single-step trap (R523, R537, R538) -/

theorem takeDue_of_none {s : State} (h : dueInterrupt s = none) : takeDue s = .ok s := by simp [takeDue, h]

theorem takeDue_of_due {s : State} {d : Due} (h : dueInterrupt s = some d) : takeDue s = takeInterrupt d s := by simp [takeDue, h]

/-- After an interrupt nothing else is due: the entry clears IF, and a request is taken only where no NMI is pending. -/
theorem dueInterrupt_after_take {d : Due} {s t : State} (hdue : dueInterrupt s = some d) (h : takeInterrupt d s = .ok t) :
    dueInterrupt t = none := by
  cases d with
  | nmi =>
    obtain ⟨-, hnmi, hifl, -⟩ := enter_boundary h
    exact dueInterrupt_of_masked hnmi hifl
  | intr n =>
    obtain ⟨-, hnmi, hifl, -⟩ := enter_boundary h
    obtain ⟨-, hnone, -⟩ := dueInterrupt_eq_intr hdue
    exact dueInterrupt_of_masked (hnmi.trans hnone) hifl

/-- Of the marks that keep a trap away, an interrupt leaves those of a segment load and WAIT; it reads no input. -/
theorem takeInterrupt_marks {d : Due} {s t : State} (h : takeInterrupt d s = .ok t) :
    t.env = s.env ∧ t.inhibitNext = s.inhibitNext ∧ t.afterWait = s.afterWait := by
  cases d with
  | nmi | intr n =>
    obtain ⟨henv, -, -, hinhibit, hwait⟩ := enter_boundary h
    exact ⟨henv, hinhibit, hwait⟩

/-- A boundary between two complete instructions where the end of a step has no input to read, and a trap may be taken. -/
structure TrapBoundary (s : State) : Prop where
  env : s.env = []
  opened : boundaryOpen s = true
  afterWait : s.afterWait = false
  repeating : s.repeating = none
  pfx : s.pfx = Prefixes.none

/-- An interrupt leaves such a boundary, before the first instruction of its handler. -/
theorem TrapBoundary.after_interrupt {d : Due} {s t : State} (hs : TrapBoundary s) (h : takeInterrupt d s = .ok t) :
    TrapBoundary t := by
  obtain ⟨henv, hinhibit, hwait⟩ := takeInterrupt_marks h
  obtain ⟨hpfx, hprefix, hrepeating, -⟩ := takeInterrupt_ends h
  obtain ⟨-, hshadow, -⟩ := boundaryOpen_iff.mp hs.opened
  have hopen : boundaryOpen t = true := boundaryOpen_iff.mpr ⟨hprefix, hinhibit.trans hshadow, by simp [hrepeating]⟩
  exact ⟨henv.trans hs.env, hopen, hwait.trans hs.afterWait, hrepeating, hpfx⟩

/-- There an instruction that began with TF set is followed by what is due and then the trap. -/
theorem TrapBoundary.finish_true {s : State} (hs : TrapBoundary s) :
    finish true (.next s) = outcome (takeDue s >>= enter 1) := by
  have hdue : stepTrapDue true s = true := by simp [stepTrapDue, hs.opened, hs.afterWait, hs.repeating]
  rw [finish_of_no_prefixes hs.env hs.pfx, stepTrap, if_pos hdue]

theorem TrapBoundary.finish_trap {s : State} (hs : TrapBoundary s) (hdue : dueInterrupt s = none) :
    finish true (.next s) = outcome (enter 1 s) := by
  rw [hs.finish_true, takeDue_of_none hdue, ok_bind]

theorem TrapBoundary.finish_interrupt_then_trap {d : Due} {s t : State} (hs : TrapBoundary s) (hdue : dueInterrupt s = some d)
    (h : takeInterrupt d s = .ok t) : finish true (.next s) = outcome (enter 1 t) := by
  rw [hs.finish_true, takeDue_of_due hdue, h, ok_bind]

/-- An interrupt taken before the instruction is followed by the trap too (log 42). -/
theorem TrapBoundary.step_interrupt_then_trap {d : Due} {s t : State} (hs : TrapBoundary s) (hdue : dueInterrupt s = some d)
    (htf : s.flags.tf = true) (h : takeInterrupt d s = .ok t) : step s = outcome (enter 1 t) :=
  calc step s = finish (s.flags.tf && s.repeating.isNone) (outcome (takeInterrupt d s)) := step_of_due hdue
    _ = finish true (.next t) := by rw [htf, hs.repeating, h]; rfl
    _ = outcome (enter 1 t) := (hs.after_interrupt h).finish_trap (dueInterrupt_after_take hdue h)

/-! ### Where no trap is taken (R523, R531, `30_encoding.md` R140) -/

theorem boundaryOpen_of_inPrefix {s : State} (h : s.inPrefix = true) : boundaryOpen s = false := by simp [boundaryOpen, h]

theorem repeatWith_inPrefix (r : Rep) (s : State) : Answers (repeatWith r s) fun t => t.inPrefix = true :=
  answers_ite answers_error (answers_ok rfl)

theorem popSReg_inhibitNext (sr : SReg) (s : State) : Answers (popSReg sr s) fun t => t.inhibitNext = true :=
  answers_bind (pop_reads s) fun _ _ => answers_ok rfl

theorem loadSReg_inhibitNext (sr : SReg) (rm : Rm16) (s : State) : Answers (loadSReg sr rm s) fun t => t.inhibitNext = true :=
  answers_bind (getRm16_reads rm s) fun _ _ => answers_ok rfl

theorem waitOp_afterWait (s : State) : Answers (waitOp s) fun t => t.afterWait = true :=
  answers_ite (answers_ok rfl) (answers_ok rfl)

theorem exec_prefix_inPrefix {i : Instr} {s t : State} (hi : i ∈ [Instr.segEs, .segCs, .segSs, .segDs, .lock, .rep, .repne])
    (h : exec i s = .next t) : t.inPrefix = true := by
  simp only [List.mem_cons, List.not_mem_nil, or_false] at hi
  rcases hi with rfl | rfl | rfl | rfl | rfl | rfl | rfl
  iterate 5 exact Host.Outcome.next.inj h ▸ rfl
  · exact repeatWith_inPrefix .rep s t (outcome_eq_next.mp h)
  · exact repeatWith_inPrefix .repne s t (outcome_eq_next.mp h)

theorem exec_popSReg_inhibitNext {i : Instr} {s t : State} (hi : i ∈ [Instr.popEs, .popSs, .popDs]) (h : exec i s = .next t) :
    t.inhibitNext = true := by
  simp only [List.mem_cons, List.not_mem_nil, or_false] at hi
  rcases hi with rfl | rfl | rfl
  · exact popSReg_inhibitNext .es s t (outcome_eq_next.mp h)
  · exact popSReg_inhibitNext .ss s t (outcome_eq_next.mp h)
  · exact popSReg_inhibitNext .ds s t (outcome_eq_next.mp h)

/-- After a prefix, and after a segment load, the boundary is closed. -/
theorem exec_closes_boundary {i : Instr} {s t : State}
    (hi : i ∈ [Instr.segEs, .segCs, .segSs, .segDs, .lock, .rep, .repne, .popEs, .popSs, .popDs] ∨ ∃ sr rm, i = .movSregRm16 sr rm)
    (h : exec i s = .next t) : boundaryOpen t = false := by
  rcases hi with hi | ⟨sr, rm, rfl⟩
  · rcases List.mem_append (s := [Instr.segEs, .segCs, .segSs, .segDs, .lock, .rep, .repne]).mp hi with hprefix | hpop
    · exact boundaryOpen_of_inPrefix (exec_prefix_inPrefix hprefix h)
    · exact boundaryOpen_of_inhibitNext (exec_popSReg_inhibitNext hpop h)
  · exact boundaryOpen_of_inhibitNext (loadSReg_inhibitNext sr rm s t (outcome_eq_next.mp h))

theorem exec_wait_no_trap {s t : State} (h : exec .wait s = .next t) (tf0 : Bool) : stepTrapDue tf0 t = false := by
  have hwait : t.afterWait = true := waitOp_afterWait s t (outcome_eq_next.mp h)
  simp [stepTrapDue, hwait]

/-- Settles O57: at an open boundary what is due comes first and the trap after it; a prefix and a segment load close the boundary,
and WAIT leaves its mark. -/
theorem singleStepTrap : Obligations.SingleStepTrap := by
  refine ⟨fun s henv hopen hwait hrep hpfx => ?taken, fun i s t h => ⟨fun hi => ?closed, ?wait⟩⟩
  case taken =>
    have hs : TrapBoundary s := ⟨henv, hopen, hwait, hrep, hpfx⟩
    refine ⟨hs.finish_trap, fun hnmi t ht => ?nmi, fun n t hnmi hifl hsti hintr ht => ?intr,
      fun d t => hs.step_interrupt_then_trap, ?untraced⟩
    case nmi => exact hs.finish_interrupt_then_trap (dueInterrupt_of_nmi hopen hnmi) ht
    case intr => exact hs.finish_interrupt_then_trap (dueInterrupt_of_intr hopen hnmi hifl hsti hintr) ht
    case untraced => rw [finish_quiet henv, retire_of_no_prefixes hpfx]
  case closed =>
    have hclosed := exec_closes_boundary hi h
    exact ⟨dueInterrupt_of_closed hclosed, stepTrapDue_of_closed hclosed⟩
  case wait =>
    rintro rfl
    exact exec_wait_no_trap h

end Sys2Proof.Proofs
end

section
/-! SUPPORT. Proof of the statement about reset (`70_reset_and_hazards.md`): RES# at the end of a step. -/

namespace Sys2Proof.Proofs

open Sys2Proof Sys2Proof.Machine Sys2Proof.Safety Sys2Proof.Laws

/-- RES# is seen before the latches and the single-step trap: nothing else of the entry counts (log 43). -/
theorem finish_of_reset {s : State} {e : EnvInput} {rest : List EnvInput} (henv : s.env = e :: rest) (hreset : e.reset = true)
    (tf0 : Bool) : finish tf0 (.next s) = .next (warmReset { s with env := rest }) := by
  have hstate : finishState tf0 s = .ok (warmReset { s with env := rest }) := by simp [finishState, henv, hreset]
  exact congrArg outcome hstate

/-- The latch is empty and IF is clear, so no interrupt waits after a reset. -/
theorem dueInterrupt_warmReset (s : State) : dueInterrupt (warmReset s) = none := dueInterrupt_of_masked rfl rfl

/-- Settles O56: the step ends in the warm reset, whose core is that of `State.reset` but for the general registers. -/
theorem resetWhileRunning : Obligations.ResetWhileRunning := by
  intro s tf0 e rest henv hreset
  refine ⟨warmReset { s with env := rest }, finish_of_reset henv hreset tf0, ?fields, ?segments, ?ip, ?psw, ?halted, ?nmi,
    ?inhibit, ?stale, ?due⟩
  case psw => exact image_cleared_and_mask
  case due => exact dueInterrupt_warmReset _
  all_goals rfl

end Sys2Proof.Proofs
end

section
/-! SUPPORT. Proof of the statement about the ports without a meaning (`93_implementation_defined.md` U8, `92_eei_decisions.md`
D29): the check of the port comes before every effect of an access, so each access answers what the check answers. -/

namespace Sys2Proof.Proofs

open Sys2Proof Sys2Proof.Machine Sys2Proof.Safety Sys2Proof.Laws

/-! ### The check of the port -/

theorem checkPort_byte_reserved {port : Word} (hlo : 0xF8#16 ≤ port) (hhi : port ≤ 0xFF#16) :
    checkPort false port = .error (.refused .reservedPort) := by
  simp [checkPort, touchesReservedPort, hlo, hhi]

/-- A word at port 0F7H has its high byte at 0F8H (log 9). -/
theorem checkPort_word_reserved {port : Word} (hlo : 0xF7#16 ≤ port) (hhi : port ≤ 0xFF#16) :
    checkPort true port = .error (.refused .reservedPort) := by
  have hlast : port ≠ 0xFFFF#16 := by bv_omega
  simp [checkPort, touchesReservedPort, hlast, hlo, hhi]

theorem checkPort_word_last : checkPort true 0xFFFF#16 = .error (.fault .wordPastLastPort) := rfl

/-! ### An access stops where the check of its port stops -/

section Access

variable {port : Word} {s : State} {e : Stop}

theorem in8_stops (h : checkPort false port = .error e) : in8 port s = .error e := by rw [in8, ioReadByte, h]; rfl

theorem in16_stops (h : checkPort true port = .error e) : in16 port s = .error e := by rw [in16, ioReadWord, h]; rfl

theorem out8_stops (h : checkPort false port = .error e) : out8 port s = .error e := by rw [out8, ioWriteByte, h]; rfl

theorem out16_stops (h : checkPort true port = .error e) : out16 port s = .error e := by rw [out16, ioWriteWord, h]; rfl

theorem ins8_stops (h : checkPort false s.regs.dx = .error e) : ins8 s = .error e := by rw [ins8, ioReadByte, h]; rfl

/-- INSW reads its port before it writes, so DI does not matter. -/
theorem ins16_stops (h : checkPort true s.regs.dx = .error e) : ins16 s = .error e := by rw [ins16, ioReadWord, h]; rfl

theorem outs8_stops (h : checkPort false s.regs.dx = .error e) : outs8 s = .error e := by rw [outs8, ioWriteByte, h]; rfl

/-- OUTSW reads its word from memory first, and that must not stop. -/
theorem outs16_stops (h : checkPort true s.regs.dx = .error e) (hsi : s.regs.si ≠ 0xFFFF#16) : outs16 s = .error e := by
  rw [outs16, readWord_ok s hsi, ok_bind]
  simp only [logEvents_regs]
  rw [ioWriteWord, h]
  rfl

/-! ### The instructions -/

theorem exec_element_stops {i self : Instr} {compare : Bool} {body : State → Except Stop State}
    (hexec : exec i s = outcome (stringStep self compare body s)) (hrep : s.pfx.rep = none) (hbody : body s = .error e) :
    exec i s = outcome (.error e) := by
  rw [hexec, stringStep_once hrep, hbody]

theorem exec_bytePortDx_stops (hrep : s.pfx.rep = none) (h : checkPort false s.regs.dx = .error e) :
    ∀ i ∈ [Instr.inAlDx, .outDxAl, .insb, .outsb], exec i s = outcome (.error e) := by
  simp only [List.forall_mem_cons, List.not_mem_nil, false_imp_iff, implies_true, and_true]
  exact ⟨congrArg outcome (in8_stops h), congrArg outcome (out8_stops h), exec_element_stops rfl hrep (ins8_stops h),
    exec_element_stops rfl hrep (outs8_stops h)⟩

theorem exec_wordPortDx_stops (hrep : s.pfx.rep = none) (h : checkPort true s.regs.dx = .error e) :
    ∀ i ∈ [Instr.inAxDx, .outDxAx, .insw], exec i s = outcome (.error e) := by
  simp only [List.forall_mem_cons, List.not_mem_nil, false_imp_iff, implies_true, and_true]
  exact ⟨congrArg outcome (in16_stops h), congrArg outcome (out16_stops h), exec_element_stops rfl hrep (ins16_stops h)⟩

theorem exec_outsw_stops (hrep : s.pfx.rep = none) (h : checkPort true s.regs.dx = .error e) (hsi : s.regs.si ≠ 0xFFFF#16) :
    exec .outsw s = outcome (.error e) := exec_element_stops rfl hrep (outs16_stops h hsi)

theorem exec_bytePortImm_stops {p : Byte} (h : checkPort false (zeroExt p) = .error e) :
    ∀ i ∈ [Instr.inAlImm8 p, .outImm8Al p], exec i s = outcome (.error e) := by
  simp only [List.forall_mem_cons, List.not_mem_nil, false_imp_iff, implies_true, and_true]
  exact ⟨congrArg outcome (in8_stops h), congrArg outcome (out8_stops h)⟩

theorem exec_wordPortImm_stops {p : Byte} (h : checkPort true (zeroExt p) = .error e) :
    ∀ i ∈ [Instr.inAxImm8 p, .outImm8Ax p], exec i s = outcome (.error e) := by
  simp only [List.forall_mem_cons, List.not_mem_nil, false_imp_iff, implies_true, and_true]
  exact ⟨congrArg outcome (in16_stops h), congrArg outcome (out16_stops h)⟩

end Access

/-- Settles O25: what the check of the port answers, and then the lemma about each group of instructions. -/
theorem portsWithoutMeaningStop : Obligations.PortsWithoutMeaningStop := by
  refine fun s hrep => ⟨fun hlo hhi => ?reservedDx, fun hlo hhi => ?wordDx, fun p hp => ?reservedImm, ?wordImm,
    fun hdx => ?lastPort⟩
  case reservedDx =>
    have hbyte := exec_bytePortDx_stops hrep (checkPort_byte_reserved hlo hhi)
    have hword := exec_wordPortDx_stops hrep (checkPort_word_reserved (by bv_omega) hhi)
    simp only [List.forall_mem_cons, List.not_mem_nil, false_imp_iff, implies_true, and_true] at hbyte hword ⊢
    obtain ⟨inAl, outAl, insb, outsb⟩ := hbyte
    obtain ⟨inAx, outAx, insw⟩ := hword
    exact ⟨inAl, inAx, outAl, outAx, insb, insw, outsb⟩
  case wordDx =>
    have hcheck := checkPort_word_reserved hlo hhi
    exact ⟨exec_wordPortDx_stops hrep hcheck, exec_outsw_stops hrep hcheck⟩
  case reservedImm =>
    have hlo : 0xF8#16 ≤ zeroExt p := by unfold zeroExt; bv_omega
    have hhi : zeroExt p ≤ 0xFF#16 := by unfold zeroExt; bv_omega
    have hbyte := exec_bytePortImm_stops (s := s) (checkPort_byte_reserved hlo hhi)
    have hword := exec_wordPortImm_stops (s := s) (checkPort_word_reserved (by bv_omega) hhi)
    simp only [List.forall_mem_cons, List.not_mem_nil, false_imp_iff, implies_true, and_true] at hbyte hword ⊢
    obtain ⟨inAl, outAl⟩ := hbyte
    obtain ⟨inAx, outAx⟩ := hword
    exact ⟨inAl, inAx, outAl, outAx⟩
  case wordImm => exact exec_wordPortImm_stops (checkPort_word_reserved (by decide) (by decide))
  case lastPort =>
    have hcheck : checkPort true s.regs.dx = .error (.fault .wordPastLastPort) := by rw [hdx, checkPort_word_last]
    exact ⟨exec_wordPortDx_stops hrep hcheck, exec_outsw_stops hrep hcheck⟩

end Sys2Proof.Proofs
end
